-- ==== Sys2Proof/Word.lean ====
section
/-! DEFINITION. The two word types of the LN-32 (spec/00_scope.md section 6.2: a word is 32 bits, an octet 8). -/

namespace Sys2Proof

/-- A word of the address space (section 6.2). -/
abbrev Word := BitVec 32

/-- An octet of the control link, or a byte of a store word (section 6.2). -/
abbrev Octet := BitVec 8

end Sys2Proof
end

