-- ==== Sys2Proof/Config.lean ====
section
/-! DEFINITION. What one part fixes and the manual leaves open: the serial number (DEDUCED, safe: log entry 7). And what
its surroundings do that no command says: the feed lines in the middle of a message (log entry 13). -/

namespace Sys2Proof

/-- SERIAL (word 001h): a 32-bit number set at manufacture, constant over the part's life (R28, R37).
The manual gives no value, so this constant has no body: every claim holds for every serial number. -/
opaque Config.serial : BitVec 32

/-- Which feed lines are in the middle of a message at the unit with the given number, where no command says so (bit f
for FDf, R63). No rule of the node fixes it, so this constant has no body: every claim holds for every choice
(DESIGN CHOICE, safe: log entry 13). -/
opaque Config.midMessage : Nat → BitVec 4

end Sys2Proof
end

