-- ==== Sys2Proof/Syntax.lean ====
section
/-! DEFINITION. The commands of the LN-32: one constructor for each row of spec/opcode_table.json, with the
inputs that reach the node's pins at that step as operands. -/

namespace Sys2Proof

/-- The four kinds of unit on the control link (R1). The value of a data octet travels in the operand of the
command that carries it. -/
inductive LinkUnit where
  | idle
  | octet
  | start
  | beacon
  deriving DecidableEq, Repr

/-- The two banks of the store (R117). -/
inductive Bank where
  | bank0
  | bank1
  deriving DecidableEq, Repr

/-- The data block of a WRITE, ORDER or SET_ID: its words in the order sent, and the value of the two data
check octets received after them (R2, R8). -/
structure Block where
  words : List Word
  check : BitVec 16
  deriving DecidableEq, Repr

/-- The commands: the rows of spec/opcode_table.json. The request rows (`read` to `logReset`) are judged at the
acceptance point of the request whose header the node has just followed: the header came with
`headerReceived`, and a row whose command has a data block brings that block as its operand. `mid` (bit f for
FDf) says which feed lines are in the middle of a message at the instant the command makes the node leave
RESET (R63). -/
inductive Instr where
  /-- START_UNIT: a START unit arrives (R3). -/
  | startUnit (mid : BitVec 4)
  /-- BEACON_UNIT: a BEACON unit arrives (R54). -/
  | beaconUnit
  /-- BEACON_RUN_END: the unit `u`, not a BEACON, ends a beacon run (R54). -/
  | beaconRunEnd (u : LinkUnit) (mid : BitVec 4)
  /-- FRAMING_ERROR: the unit `u` cuts a request short in HEADER or DATA (R4). -/
  | framingError (u : LinkUnit)
  /-- HEADER_RECEIVED: the eight header octets, octet 1 in bits 63-56 (R5, R15). -/
  | headerReceived (octets : BitVec 64)
  /-- READ: acceptance point of a READ of registers or windows (R10). -/
  | read
  /-- STORE_READ: acceptance point of a READ of the store (R121). -/
  | storeRead
  /-- REGISTER_WRITE: acceptance point of a WRITE of plain registers (R172). -/
  | registerWrite (b : Block)
  /-- LINK_STATUS_CLEAR: acceptance point of a WRITE that covers LINK_STATUS (R26). -/
  | linkStatusClear (b : Block)
  /-- FEED_STATUS_CLEAR: acceptance point of a WRITE that covers a FEED_STATUS word (R68). -/
  | feedStatusClear (b : Block)
  /-- CHANNEL_RECORD_WRITE: acceptance point of a WRITE that covers channel records (R70). -/
  | channelRecordWrite (b : Block)
  /-- SUPERSEDE_CLEAR: acceptance point of a WRITE that covers supersede counts (R76). -/
  | supersedeClear (b : Block)
  /-- ACTIVE_TABLE_WRITE: acceptance point of a WRITE of the ACTIVE window (R85). -/
  | activeTableWrite (b : Block)
  /-- STAGED_TABLE_WRITE: acceptance point of a WRITE of the STAGED window (R86). -/
  | stagedTableWrite (b : Block)
  /-- FRAME_WATCH_WRITE: acceptance point of a WRITE that covers FRAME_WATCH (R114). -/
  | frameWatchWrite (b : Block)
  /-- STORE_CFG_WRITE: acceptance point of a WRITE that covers STORE_CFG (R118). -/
  | storeCfgWrite (b : Block)
  /-- STORE_WRITE: acceptance point of a WRITE of the store (R121). -/
  | storeWrite (b : Block)
  /-- LOG_LOSS_CLEAR: acceptance point of a WRITE that covers LOG_LOSS (R131). -/
  | logLossClear (b : Block)
  /-- EVENT_RETIRE: acceptance point of a WRITE that covers EVENT_RETIRE (R144). -/
  | eventRetire (b : Block)
  /-- CLEAR_LOST: the same WRITE with its CLEAR_LOST bit set (R145). -/
  | clearLost (b : Block)
  /-- ALERT_ENABLE_WRITE: acceptance point of a WRITE that covers ALERT_ENABLE (R147). -/
  | alertEnableWrite (b : Block)
  /-- SET_ID: acceptance point of a SET_ID (R33). -/
  | setId (b : Block)
  /-- DRAIN: acceptance point of a DRAIN (R133). -/
  | drain
  /-- UNUSED_COMMAND: acceptance point of a request with COMMAND 5, 6 or 7 (R16). -/
  | unusedCommand
  /-- UNKNOWN_ORDER: acceptance point of an ORDER whose code is not listed (R57). -/
  | unknownOrder (b : Block)
  /-- START_RUN: acceptance point of order 1 (R46). -/
  | startRun (b : Block)
  /-- STOP_RUN: acceptance point of order 2 (R47). -/
  | stopRun (b : Block)
  /-- ENTER_QUIET: acceptance point of order 3 (R48). -/
  | enterQuiet (b : Block)
  /-- SOFT_RESET: acceptance point of order 4 (R51). -/
  | softReset (b : Block)
  /-- RUN_SELFTEST: acceptance point of order 5 (R52). -/
  | runSelftest (b : Block)
  /-- COMMIT: acceptance point of order 6 (R87). -/
  | commit (b : Block)
  /-- DISCARD_STAGED: acceptance point of order 7 (R91). -/
  | discardStaged (b : Block)
  /-- CLEAR_MUTE: acceptance point of order 8 (R109). -/
  | clearMute (b : Block)
  /-- LOG_RESET: acceptance point of order 9 (R138). -/
  | logReset (b : Block)
  /-- ACK_TOKEN_SEND: ACK_DELAY units have passed; the token begins (R13). -/
  | ackTokenSend
  /-- READ_DATA_SEND: READ_DELAY units have passed after the token; the read data begins (R13). -/
  | readDataSend
  /-- REPLY_END: the last octet of the reply ends (R13). -/
  | replyEnd
  /-- REPLY_CLASH: in the octet being sent the node reads 0 at bit number `bit` in the order sent (0 first) (R24). -/
  | replyClash (bit : BitVec 3)
  /-- REPLY_TRUNCATED: the START or BEACON unit `u` abandons the reply (R25). -/
  | replyTruncated (u : LinkUnit)
  /-- PIN_RESET: RSTN goes low, or (`power`) power is applied (R43). -/
  | pinReset (power : Bool)
  /-- PIN_RESET_RELEASE: RSTN goes high (R44). -/
  | pinResetRelease (mid : BitVec 4)
  /-- SOFT_RESET_STEP_DONE: the soft reset's internal step completes (R163). -/
  | softResetStepDone (mid : BitVec 4)
  /-- SELFTEST_PHASE_END: the running self-test phase ends; `failed` lists the words in which it found a
  failure, each with what its faulty storage keeps afterwards (R151 to R156). -/
  | selftestPhaseEnd (failed : List (BitVec 20 × Word))
  /-- CHI_CHANGE: the CHI input takes the given level, true for asserted (R31). -/
  | chiChange (level : Bool)
  /-- FEED_MESSAGE: a complete message on FD`feed`, message bit 1 in bit 24 of `bits` (R62, R63). -/
  | feedMessage (feed : BitVec 2) (bits : BitVec 25)
  /-- FRAME_MARKER: a frame marker with its frame number (R99). -/
  | frameMarker (number : BitVec 16)
  /-- SLOT_TICK: a slot tick; `ltag` is what all other parties put on LTAG in the tag phase that follows, first
  tag bit in bit 5, 1 for released (R101, R102). -/
  | slotTick (ltag : BitVec 6)
  /-- FRAME_WATCH_EXPIRY: the frame watch count reaches its limit (R114). -/
  | frameWatchExpiry
  /-- PAGE_OPEN_DONE: the page open of a bank completes (R119). -/
  | pageOpenDone (bank : Bank)
  /-- LOG_WRITER_STEP: the log writer takes one step (R126). -/
  | logWriterStep
  /-- FEED_RECEIVER_RESYNC: FD`feed`'s receiver finds its line at idle for one full bit period (R63). -/
  | feedReceiverResync (feed : BitVec 2)
  deriving DecidableEq, Repr

end Sys2Proof
end

