-- ==== Sys2Proof/WellFormed.lean ====
section
/-! DEFINITION. Which commands can be formed at all: the unit kinds a row allows, the length of a data block,
and the addresses a self-test can report. -/

namespace Sys2Proof

/-- COUNT has seven bits, so a data block holds at most 127 words (R2, R5). -/
def Block.wellFormed (b : Block) : Bool := b.words.length ≤ 127

/-- The words some self-test phase can find at fault: the registers and channel records of S1 (R152), the table
entries of S2 (R153), the store words of S3 and S4 (R154), the latest samples of S5 (R155) and S6 (R156). -/
def testableAddress (a : Nat) : Bool :=
  [0x004, 0x00D, 0x00E, 0x010, 0x018, 0x019, 0x030, 0x031, 0x032, 0x033].contains a
    || (0x100 ≤ a && a ≤ 0x11F) || (0x140 ≤ a && a ≤ 0x161) || (0x200 ≤ a && a ≤ 0x3FF)
    || (0x4000 ≤ a && a ≤ 0x7FFF)

/-- A command that can be formed: every check that an operand's type does not make by itself. -/
def Instr.wellFormed : Instr → Bool
  | .startUnit _ => true
  | .beaconUnit => true
  | .beaconRunEnd u _ => u ≠ .beacon
  | .framingError u => u ≠ .octet
  | .headerReceived _ => true
  | .read => true
  | .storeRead => true
  | .registerWrite b => b.wellFormed
  | .linkStatusClear b => b.wellFormed
  | .feedStatusClear b => b.wellFormed
  | .channelRecordWrite b => b.wellFormed
  | .supersedeClear b => b.wellFormed
  | .activeTableWrite b => b.wellFormed
  | .stagedTableWrite b => b.wellFormed
  | .frameWatchWrite b => b.wellFormed
  | .storeCfgWrite b => b.wellFormed
  | .storeWrite b => b.wellFormed
  | .logLossClear b => b.wellFormed
  | .eventRetire b => b.wellFormed
  | .clearLost b => b.wellFormed
  | .alertEnableWrite b => b.wellFormed
  | .setId b => b.wellFormed
  | .drain => true
  | .unusedCommand => true
  | .unknownOrder b => b.wellFormed
  | .startRun b => b.wellFormed
  | .stopRun b => b.wellFormed
  | .enterQuiet b => b.wellFormed
  | .softReset b => b.wellFormed
  | .runSelftest b => b.wellFormed
  | .commit b => b.wellFormed
  | .discardStaged b => b.wellFormed
  | .clearMute b => b.wellFormed
  | .logReset b => b.wellFormed
  | .ackTokenSend => true
  | .readDataSend => true
  | .replyEnd => true
  | .replyClash _ => true
  | .replyTruncated u => u = .start ∨ u = .beacon
  | .pinReset _ => true
  | .pinResetRelease _ => true
  | .softResetStepDone _ => true
  | .selftestPhaseEnd failed => failed.all (fun f => testableAddress f.1.toNat) && (failed.map (·.1)).Nodup
  | .chiChange _ => true
  | .feedMessage _ _ => true
  | .frameMarker _ => true
  | .slotTick _ => true
  | .frameWatchExpiry => true
  | .pageOpenDone _ => true
  | .logWriterStep => true
  | .feedReceiverResync _ => true

end Sys2Proof
end

