-- ==== Sys2Proof/Decode.lean ====
section
/-! DEFINITION. The words that spell a command. spec/opcode_table.json gives no row any bits: the rows are
steps of the part, and what reaches its pins at a step is a sequence of units, messages and pulses, not one
word. So no word spells a command. -/

namespace Sys2Proof

/-- The command that a word spells by the table's bits: none, since no row of the table has any. -/
def decodeTableWord (_nbits _w : Nat) : Option Instr := none

end Sys2Proof
end

