-- ==== Sys2Proof/Machine/State.lean ====
section
/-! DEFINITION. The state of one LN-32, block by block (spec/00_scope.md section 3), the queue of waiting
commands, and the state right after power is applied. -/

namespace Sys2Proof.Machine

open Sys2Proof (Word Octet Bank Instr)

/-! ## Outcomes -/

/-- Why the machine stops with a fault: never. The manual has no condition that stops the part, so this type
has no constructor (safe: nothing is claimed to stop). -/
inductive Fault where
  deriving DecidableEq, Repr

/-- Why the model refuses a command. -/
inductive Refusal where
  /-- Raised by an arm of `exec` for a command that has no meaning yet (safe; no arm raises it). -/
  | notModelled (mnemonic : String)
  deriving DecidableEq, Repr

/-! ## The control link -/

/-- COMMAND (R5): the five commands and the three unused codes. -/
inductive Command where
  | read
  | write
  | order
  | setId
  | drain
  | unused5
  | unused6
  | unused7
  deriving DecidableEq, Repr

/-- ADDRESSING (R5). -/
inductive Addressing where
  | direct
  | broadcast
  | chainHead
  | noNode
  deriving DecidableEq, Repr

/-- The fields of the eight header octets (R5). -/
structure Header where
  addressing : Addressing
  dest : BitVec 6
  command : Command
  seq : BitVec 4
  address : BitVec 20
  firstEn : BitVec 4
  lastEn : BitVec 4
  count : BitVec 7
  deriving DecidableEq, Repr

/-- What the node does at the instant a reply ends (R48, R51). -/
inductive AfterReply where
  | nothing
  | enterQuiet
  | softReset
  deriving DecidableEq, Repr

/-- A reply owed or being sent: the token octets (R11), the octets of the read data and its check for an
accepted READ or DRAIN (R13), the delays taken at the acceptance point (R14), and the request's COMMAND and SEQ
(R25). -/
structure Reply where
  token : List Octet
  data : Option (List Octet)
  ackDelay : Nat
  readDelay : Nat
  command : Command
  seq : BitVec 4
  after : AfterReply
  deriving DecidableEq, Repr

/-- The seven receive states (R3). HEADER, DATA, ACK_WAIT and READ_WAIT count the units received in them, TOKEN
and READ_DATA the octets completely sent. DATA holds the header of the request being followed. -/
inductive RxState where
  | listen
  | header (octets : Nat)
  | data (h : Header) (octets : Nat)
  | ackWait (r : Reply) (units : Nat)
  | token (r : Reply) (sent : Nat)
  | readWait (r : Reply) (units : Nat)
  | readData (r : Reply) (sent : Nat)
  deriving DecidableEq, Repr

/-- The reply memory (R19). -/
structure ReplyMemory where
  valid : Bool
  seq : BitVec 4
  command : Command
  address : BitVec 20
  count : BitVec 7
  crc : BitVec 16
  deriving DecidableEq, Repr

/-- The drain memory (R133). -/
structure DrainMemory where
  valid : Bool
  seq : BitVec 4
  deriving DecidableEq, Repr

/-- The link interface (LIF): the receive state, the beacon counter (R54), the count of link units received (R1),
LINK_CFG as held, the four LINK_STATUS counters (R26) and the two memories. -/
structure Link where
  rx : RxState
  beacons : BitVec 8
  units : Nat
  cfg : Word
  headerErrors : BitVec 8
  dataErrors : BitVec 8
  clashes : BitVec 8
  bcastMissed : BitVec 8
  mem : ReplyMemory
  drain : DrainMemory
  deriving DecidableEq, Repr

/-! ## Chain and identity, node controller -/

/-- Chain and identity (CID): NODE_ID (R29) and the level of the CHI input (R30). CHO is computed (R31). -/
structure Ident where
  nodeId : BitVec 6
  chi : Bool
  deriving DecidableEq, Repr

/-- The five operating states (R42). -/
inductive Mode where
  | reset
  | selftest
  | setup
  | run
  | quiet
  deriving DecidableEq, Repr

/-- The kinds of stop (R47). -/
inductive StopKind where
  | now
  | atFrame
  deriving DecidableEq, Repr

/-- RESET_CAUSE (R53, R164). -/
inductive ResetCause where
  | powerPin
  | link
  | soft
  deriving DecidableEq, Repr

/-- The node controller (NCT): the operating state, the pending stop, TEST_PASSED, RESET_CAUSE, RSTN (true while
low), and the units still to pass of a soft reset's internal step (R163). The link-reset cause is the beacon
counter standing at 64 or more (R55). -/
structure Control where
  mode : Mode
  stop : Option StopKind
  testPassed : Bool
  resetCause : ResetCause
  rstnLow : Bool
  softStep : Option Nat
  deriving DecidableEq, Repr

/-! ## Capture port -/

/-- The receiver of one feed input (R63): held in RESET, waiting for its line to be at idle, or framing. -/
inductive FeedRx where
  | held
  | waitIdle
  | framing
  deriving DecidableEq, Repr

/-- One feed: its receiver (R63) and its FEED_STATUS counters (R68). -/
structure Feed where
  rx : FeedRx
  parityErrors : BitVec 8
  unclaimed : BitVec 8
  deriving DecidableEq, Repr

/-- The latest sample of a capture channel (R74). -/
structure Sample where
  value : BitVec 20
  seq : BitVec 8
  fresh : Bool
  noData : Bool
  overRange : Bool
  deriving DecidableEq, Repr

/-- One capture channel: its channel record as held (R69), its decimation counter (R71), its latest sample and
its supersede count (R76). -/
structure Channel where
  record : Word
  decim : BitVec 4
  sample : Sample
  superseded : BitVec 8
  deriving DecidableEq, Repr

/-- The capture port (CAP): FEED_CFG as held (R65), SPAN_VALUE as held (R162), the four feeds and the 32 capture
channels. -/
structure Capture where
  feedCfg : Word
  span : Word
  feeds : Vector Feed 4
  channels : Vector Channel 32
  deriving DecidableEq, Repr

/-! ## Schedule tables -/

/-- One physical schedule table (R79, R80). -/
abbrev Table := Vector Word 256

/-- A pending commit (R88). -/
structure Commit where
  targeted : Bool
  target : BitVec 16
  late : Bool
  deriving DecidableEq, Repr

/-- RESULT of TABLE_CHECK (R83). -/
inductive CheckResult where
  | none
  | valid
  | noEnd
  | badChannel
  | channelDisabled
  deriving DecidableEq, Repr

/-- TABLE_CHECK (R83): `ofActive` is SOURCE. -/
structure TableCheck where
  result : CheckResult
  ofActive : Bool
  index : Nat
  length : Nat
  deriving DecidableEq, Repr

/-- The schedule tables (SCT): the two physical tables, which of them is ACTIVE, the pending commit and
TABLE_CHECK. -/
structure Tables where
  first : Table
  second : Table
  firstActive : Bool
  commit : Option Commit
  check : TableCheck
  deriving DecidableEq, Repr

/-! ## Lane sequencer -/

/-- The run sub-state (R97). -/
inductive RunSub where
  | none
  | awaitFrame
  | walking
  | frameDone
  deriving DecidableEq, Repr

/-- FIRST_KIND (R105, R110). -/
inductive LaneFault where
  | none
  | contentionLost
  | scheduleShort
  | scheduleLong
  deriving DecidableEq, Repr

/-- The fault record (R97). -/
structure FaultRecord where
  kind : LaneFault
  lostBit : Nat
  slot : Nat
  frame : BitVec 16
  deriving DecidableEq, Repr

/-- What the node drives on the lane in the slot in progress (R96): the number of tag bits it sends, the tag (its
node ID), and the slot word when it won the slot. -/
structure SlotDrive where
  tagBits : Nat
  tag : BitVec 6
  word : Option (BitVec 40)
  deriving DecidableEq, Repr

/-- The lane sequencer (LSQ): the items of R97, FRAME_WATCH as held (R114), and what it drives. -/
structure Lane where
  sub : RunSub
  slotIndex : Nat
  inSlot : Bool
  markerSeen : Bool
  shortSeen : Bool
  frame : BitVec 16
  muted : Bool
  unmute : Bool
  fault : FaultRecord
  faultCount : BitVec 8
  watchCfg : Word
  watchCount : Nat
  watchExpired : Bool
  drive : Option SlotDrive
  deriving DecidableEq, Repr

/-! ## Store and log -/

/-- The store's bytes, by address: byte k of physical word w stands at 4 w + k. Addresses rise strictly, and no
zero byte is listed. -/
abbrev Memory := List Host.Cell

/-- The page state of a bank (R119); pages are physical pages. -/
inductive PageState where
  | none
  | opened (page : Nat)
  | opening (page : Nat) (remaining : Nat)
  deriving DecidableEq, Repr

/-- A record in the append queue: the offer of R73 with the slot and frame of R124. -/
structure Offer where
  channel : BitVec 6
  overRange : Bool
  seq : BitVec 8
  value : BitVec 20
  slot : BitVec 16
  frame : BitVec 16
  deriving DecidableEq, Repr

/-- The store and log (STL): the store, the two banks, STORE_CFG and LOG_WATERMARK as held, the ring of R123, the
loss counts (R131), RECORD_SERIAL (R127), the append queue (R125) and whether the drop episode is disarmed.
`writerDue` is the model's own: at the instant being taken a link unit has ended or a record was offered, and the
writer has not yet taken its step (R126). -/
structure Store where
  mem : Memory
  bank0 : PageState
  bank1 : PageState
  cfg : Word
  watermark : Word
  head : Nat
  tail : Nat
  count : Nat
  inFlight : Nat
  dropped : BitVec 16
  overwritten : BitVec 16
  serial : Word
  queue : List Offer
  disarmed : Bool
  writerDue : Bool
  deriving DecidableEq, Repr

/-! ## Events and self-test -/

/-- The eighteen event kinds (Table 8-1). -/
inductive EventKind where
  | selftestDone
  | headerCheck
  | dataCheck
  | replyTruncated
  | broadcastIgnored
  | replyClash
  | beaconStray
  | feedParity
  | tableSwapped
  | commitLate
  | contentionLost
  | scheduleShort
  | scheduleLong
  | laneSilent
  | frameGap
  | logWatermark
  | logFull
  | appendDrop
  deriving DecidableEq, Repr

/-- An event record (R140). -/
structure EventRecord where
  kind : EventKind
  detail : BitVec 16
  frame : BitVec 16
  serial : BitVec 8
  deriving DecidableEq, Repr

/-- The event unit (EVU): the queue oldest first (R141), LOST (R145), EVSERIAL (R140), the two enables (R147), and
the ALERTN output, true while it is pulled low (R148). The attention flag is computed. -/
structure Events where
  queue : List EventRecord
  lost : BitVec 8
  serial : BitVec 8
  enable : Word
  alert : Word
  alertn : Bool
  deriving DecidableEq, Repr

/-- The self-test phases; `idle` when no test runs (R151, R157). -/
inductive Phase where
  | idle
  | s1
  | s2
  | s3
  | s4
  | s5
  | s6
  deriving DecidableEq, Repr

/-- The self-test engine (STE): the three result words (R157), the units received in the running phase (R151),
the LINK_CFG held when the test began, which times replies in SELFTEST (R13, R152), and, from the end of S3 to the
end of S4, the store words that failed S3, each with what its storage keeps after the zero fill (R154). -/
structure SelfTest where
  signature : Word
  fails : BitVec 6
  phase : Phase
  address : BitVec 16
  units : Nat
  savedLinkCfg : Word
  storeFaults : List (BitVec 20 × Word)
  deriving DecidableEq, Repr

/-! ## The node -/

/-- The processes timed by a count of link units that can begin at an instant before the unit that ends at it is taken
(R169): a page open, a soft reset's internal step, a self-test. -/
inductive TimedCount where
  | opening (b : Bank)
  | softStep
  | phase
  deriving DecidableEq, Repr

/-- The instant whose events are being taken (R60): the place in the order of R60 of the last one taken, whether a
link unit ended at it, whether a frame marker was received at it, and the timed counts that have begun at it. The model's
own (log entry 23). -/
structure Moment where
  place : Nat
  unit : Bool
  marker : Bool
  begun : List TimedCount
  deriving DecidableEq, Repr

/-- One LN-32, with the instant being taken, if one is open, and the queue of the commands that wait, first in, first
out. -/
structure State where
  link : Link
  ident : Ident
  ctl : Control
  cap : Capture
  sct : Tables
  lane : Lane
  stl : Store
  evu : Events
  ste : SelfTest
  user : Vector Word 4
  now : Option Moment
  pending : List Instr
  deriving DecidableEq, Repr

/-- What a command can lead to. -/
abbrev Result := Host.Outcome State Fault Refusal

/-! ## After power is applied -/

/-- A capture channel after a pin, link or soft reset (R78). -/
def Channel.initial : Channel where
  record := 0x00000101
  decim := 0
  sample := { value := 0, seq := 0, fresh := false, noData := true, overRange := false }
  superseded := 0

/-- A feed while the node is in RESET (R63, R68). -/
def Feed.initial : Feed where
  rx := .held
  parityErrors := 0
  unclaimed := 0

/-- The cleared fault record (R98, R109, R116). -/
def FaultRecord.clear : FaultRecord where
  kind := .none
  lostBit := 0
  slot := 0
  frame := 0

/-- TABLE_CHECK reading NONE (R83). -/
def TableCheck.blank : TableCheck where
  result := .none
  ofActive := false
  index := 0
  length := 0

/-- The node at the instant power has been applied: RESET, held by RSTN as if low (R43), every block at its
pin-reset value (Table 10-1). The values the manual does not give (the levels of CHI and of the feed lines, the
contents of tables, result words and reply memory before the first test) are those of log entry 8
(DESIGN CHOICE, unsafe). -/
def State.reset : State where
  link :=
    { rx := .listen
      beacons := 0
      units := 0
      cfg := 0x00000024
      headerErrors := 0
      dataErrors := 0
      clashes := 0
      bcastMissed := 0
      mem := { valid := false, seq := 0, command := .read, address := 0, count := 0, crc := 0 }
      drain := { valid := false, seq := 0 } }
  ident := { nodeId := 0, chi := false }
  ctl :=
    { mode := .reset
      stop := none
      testPassed := false
      resetCause := .powerPin
      rstnLow := true
      softStep := none }
  cap :=
    { feedCfg := 0x0000000F
      span := 0x00040000
      feeds := Vector.replicate 4 Feed.initial
      channels := Vector.replicate 32 Channel.initial }
  sct :=
    { first := Vector.replicate 256 0
      second := Vector.replicate 256 0
      firstActive := true
      commit := none
      check := TableCheck.blank }
  lane :=
    { sub := .none
      slotIndex := 0
      inSlot := false
      markerSeen := false
      shortSeen := false
      frame := 0
      muted := false
      unmute := false
      fault := FaultRecord.clear
      faultCount := 0
      watchCfg := 0
      watchCount := 0
      watchExpired := false
      drive := none }
  stl :=
    { mem := []
      bank0 := .none
      bank1 := .none
      cfg := 0
      watermark := 0
      head := 0
      tail := 0
      count := 0
      inFlight := 0
      dropped := 0
      overwritten := 0
      serial := 0
      queue := []
      disarmed := false
      writerDue := false }
  evu := { queue := [], lost := 0, serial := 0, enable := 0x0007FF7A, alert := 0, alertn := false }
  ste :=
    { signature := 0
      fails := 0
      phase := .idle
      address := 0
      units := 0
      savedLinkCfg := 0x00000024
      storeFaults := [] }
  user := Vector.replicate 4 0
  now := none
  pending := []

end Sys2Proof.Machine
end

