-- ==== Sys2Proof/Machine/Operands.lean ====
section
/-! DEFINITION. The fields of everything the node receives and holds: header octets, feed messages, table
entries, order codes, and the registers as the node acts on them (a held value that its rule does not allow counts
as the field's reset value, R152). -/

namespace Sys2Proof.Machine

/-! ## Bits and counters -/

/-- One step of a saturating counter (section 6.2). -/
def satInc {n : Nat} (x : BitVec n) : BitVec n :=
  if x = BitVec.allOnes n then x else x + 1

/-- A field placed at bit `k` of a word. -/
def fieldAt {n : Nat} (k : Nat) (x : BitVec n) : Word := x.setWidth 32 <<< k

/-- A one-bit field placed at bit `k` of a word. -/
def flagAt (k : Nat) (b : Bool) : Word := fieldAt k (BitVec.ofBool b)

/-- A number placed at bit `k` of a word, in `n` bits. -/
def natAt (n k v : Nat) : Word := fieldAt k (BitVec.ofNat n v)

/-- The bits of a value, most significant first: the order of every octet on the link (R1, R7, R8). -/
def bitsMsbFirst {n : Nat} (x : BitVec n) : List Bool := (List.range n).map x.getMsbD

/-- The four octets of a word in the order sent, byte 3 first (R8). -/
def wordOctets (w : Word) : List Octet :=
  [w.extractLsb' 24 8, w.extractLsb' 16 8, w.extractLsb' 8 8, w.extractLsb' 0 8]

/-! ## The request header -/

/-- The COMMAND codes (R5). -/
def Command.code : Command → BitVec 3
  | .read => 0
  | .write => 1
  | .order => 2
  | .setId => 3
  | .drain => 4
  | .unused5 => 5
  | .unused6 => 6
  | .unused7 => 7

/-- The command a COMMAND code names (R5). -/
def Command.ofCode (c : BitVec 3) : Command :=
  match c.toNat with
  | 0 => .read
  | 1 => .write
  | 2 => .order
  | 3 => .setId
  | 4 => .drain
  | 5 => .unused5
  | 6 => .unused6
  | _ => .unused7

/-- The ADDRESSING codes (R5). -/
def Addressing.code : Addressing → BitVec 2
  | .direct => 0
  | .broadcast => 1
  | .chainHead => 2
  | .noNode => 3

/-- The addressing an ADDRESSING code names (R5). -/
def Addressing.ofCode (c : BitVec 2) : Addressing :=
  match c.toNat with
  | 0 => .direct
  | 1 => .broadcast
  | 2 => .chainHead
  | _ => .noNode

/-- The fields of the eight header octets, octet 1 in bits 63-56 (R5). The reserved bits are ignored. -/
def Header.parse (o : BitVec 64) : Header where
  addressing := .ofCode (o.extractLsb' 62 2)
  dest := o.extractLsb' 56 6
  command := .ofCode (o.extractLsb' 53 3)
  seq := o.extractLsb' 49 4
  address := o.extractLsb' 28 20
  firstEn := o.extractLsb' 24 4
  lastEn := o.extractLsb' 20 4
  count := o.extractLsb' 8 7

/-- WRITE, ORDER and SET_ID carry a data block (R2). -/
def Command.hasBlock : Command → Bool
  | .write | .order | .setId => true
  | _ => false

/-- The words of the request's data block (R2). -/
def Header.blockWords (h : Header) : Nat := if h.command.hasBlock then h.count.toNat else 0

/-- The octets of the request's data block, its check included (R2). -/
def Header.blockOctets (h : Header) : Nat := if h.command.hasBlock then 4 * h.count.toNat + 2 else 0

/-- The words a READ or WRITE covers, COUNT of them; with COUNT 0 it is judged as covering the one word at
ADDRESS (R16, R58). -/
def Header.covered (h : Header) : Nat := max 1 h.count.toNat

/-- The last word a READ or WRITE covers; addresses do not wrap (R171). -/
def Header.last (h : Header) : Nat := h.address.toNat + h.covered - 1

/-- Every word covered lies in `lo` to `hi`. -/
def Header.within (h : Header) (lo hi : Nat) : Bool := lo ≤ h.address.toNat && h.last ≤ hi

/-- Some word covered lies in `lo` to `hi`. -/
def Header.covers (h : Header) (lo hi : Nat) : Bool := h.address.toNat ≤ hi && lo ≤ h.last

/-! ## Orders -/

/-- The orders of this revision (R57). -/
inductive Order where
  | startRun
  | stopRun
  | enterQuiet
  | softReset
  | runSelftest
  | commit
  | discardStaged
  | clearMute
  | logReset
  deriving DecidableEq, Repr

/-- The order an order code names (R57); every other code is unknown. -/
def Order.ofCode : Nat → Option Order
  | 1 => some .startRun
  | 2 => some .stopRun
  | 3 => some .enterQuiet
  | 4 => some .softReset
  | 5 => some .runSelftest
  | 6 => some .commit
  | 7 => some .discardStaged
  | 8 => some .clearMute
  | 9 => some .logReset
  | _ => none

/-- The order a request names in its ADDRESS field, when its command is ORDER (R6, R57). -/
def Header.order (h : Header) : Option Order :=
  if h.command = .order then Order.ofCode h.address.toNat else none

/-- A request at its acceptance point: the header followed and the data block received (R2). -/
structure Request where
  hdr : Header
  words : List Word
  check : BitVec 16
  deriving DecidableEq, Repr

/-- The parameter word of an ORDER, or the new ID of a SET_ID: the first word of the data block (R6). -/
def Request.param (r : Request) : Word := r.words.headD 0

/-! ## Link configuration -/

/-- ACK_DELAY of a held LINK_CFG (R14, R152). -/
def ackDelayOf (cfg : Word) : Nat :=
  let v := (cfg.extractLsb' 0 4).toNat
  if 2 ≤ v ∧ v ≤ 9 then v else 4

/-- READ_DELAY of a held LINK_CFG (R14, R152). -/
def readDelayOf (cfg : Word) : Nat :=
  let v := (cfg.extractLsb' 4 4).toNat
  if 1 ≤ v ∧ v ≤ 8 then v else 2

/-! ## Feeds and channels -/

/-- INDEX of a feed message: message bits 1-3 (R62). -/
def messageIndex (bits : BitVec 25) : BitVec 3 := bits.extractLsb' 22 3

/-- OVER of a feed message: message bit 4 (R62). -/
def messageOver (bits : BitVec 25) : Bool := bits.getLsbD 21

/-- VALUE of a feed message: message bits 5-24 (R62). -/
def messageValue (bits : BitVec 25) : BitVec 20 := bits.extractLsb' 1 20

/-- The channel a feed message addresses: feed number times 8 plus INDEX (R62). -/
def messageChannel (feed : BitVec 2) (bits : BitVec 25) : Nat := feed.toNat * 8 + (messageIndex bits).toNat

/-- A feed is enabled in FEED_CFG (R65). -/
def Capture.feedEnabled (c : Capture) (feed : BitVec 2) : Bool := c.feedCfg.getLsbD feed.toNat

/-- Feed `f` of the capture port. -/
def Capture.feed (c : Capture) (f : Nat) : Feed := c.feeds[f]?.getD Feed.initial

/-- Capture channel `c`. -/
def Capture.channel (p : Capture) (c : Nat) : Channel := p.channels[c]?.getD Channel.initial

/-- The capture port with feed `f` replaced. -/
def Capture.setFeed (c : Capture) (f : Nat) (v : Feed) : Capture := { c with feeds := c.feeds.setIfInBounds f v }

/-- The capture port with channel `c` replaced. -/
def Capture.setChannel (p : Capture) (c : Nat) (v : Channel) : Capture :=
  { p with channels := p.channels.setIfInBounds c v }

/-- ENABLED of a channel record (R69). -/
def Channel.enabled (c : Channel) : Bool := c.record.getLsbD 0

/-- LOG of a channel record (R69). -/
def Channel.logged (c : Channel) : Bool := c.record.getLsbD 1

/-- DECIM of a channel record (R69, R152). -/
def Channel.decimation (c : Channel) : Nat :=
  let v := (c.record.extractLsb' 8 5).toNat
  if 1 ≤ v ∧ v ≤ 16 then v else 1

/-- SPAN_VALUE as the SPAN reference carries it (R162). -/
def Capture.spanValue (c : Capture) : BitVec 20 := c.span.extractLsb' 0 20

/-! ## Schedule tables -/

/-- Entry `k` of a table. -/
def Table.entry (t : Table) (k : Nat) : Word := t[k]?.getD 0

/-- CHANNEL of an entry (R80). -/
def entryChannel (e : Word) : Nat := (e.extractLsb' 0 6).toNat

/-- DRIVE of an entry (R80). -/
def entryDrive (e : Word) : Bool := e.getLsbD 6

/-- END of an entry (R80). -/
def entryEnd (e : Word) : Bool := e.getLsbD 7

/-- The index of the first entry with END set (R81). -/
def Table.firstEnd (t : Table) : Option Nat := (List.range 256).find? (fun k => entryEnd (Table.entry t k))

/-- A table's length: the index of its first END entry plus one; 0 stands for no length (R81, R115). -/
def Table.length (t : Table) : Nat :=
  match Table.firstEnd t with
  | some k => k + 1
  | none => 0

/-- The table in the ACTIVE role (R79). -/
def Tables.active (t : Tables) : Table := if t.firstActive then t.first else t.second

/-- The table in the STAGED role (R79). -/
def Tables.staged (t : Tables) : Table := if t.firstActive then t.second else t.first

/-- The word of entry `k` in the default schedule (R94). -/
def defaultEntry (k : Nat) : Word := if k < 31 then BitVec.ofNat 32 k else if k = 31 then 0x0000009F else 0

/-- The default schedule (R94). -/
def defaultSchedule : Table := Vector.ofFn (fun k : Fin 256 => defaultEntry k.val)

/-! ## Lane -/

/-- The watch limit in link units; 0 turns the watch off (R114). -/
def Lane.watchLimit (l : Lane) : Nat := (l.watchCfg.extractLsb' 0 8).toNat * 256

/-! ## Store and log -/

/-- LOG_FIRST as held. -/
def Store.heldFirst (t : Store) : Nat := (t.cfg.extractLsb' 8 7).toNat

/-- LOG_PAGES as held. -/
def Store.heldPages (t : Store) : Nat := (t.cfg.extractLsb' 16 8).toNat

/-- MAP is INTERLEAVED (R118). -/
def Store.interleaved (t : Store) : Bool := t.cfg.getLsbD 0

/-- STAMP (R118). -/
def Store.stamp (t : Store) : Bool := t.cfg.getLsbD 1

/-- OVERFLOW is OVERWRITE (R118). -/
def Store.overwrite (t : Store) : Bool := t.cfg.getLsbD 2

/-- LOG_FIRST as the node uses it (R118, R152). -/
def Store.logFirst (t : Store) : Nat := if t.heldFirst + t.heldPages > 128 then 0 else t.heldFirst

/-- LOG_PAGES as the node uses it (R118, R152). -/
def Store.logPages (t : Store) : Nat := if t.heldFirst + t.heldPages > 128 then 0 else t.heldPages

/-- WATERMARK as the node uses it (R131, R152). -/
def Store.watermarkLevel (t : Store) : Nat :=
  let v := (t.watermark.extractLsb' 0 14).toNat
  if v ≤ 8192 then v else 0

/-- Words in a record (R123). -/
def Store.recordSize (t : Store) : Nat := if t.stamp then 4 else 2

/-- Record places in one page (R123). -/
def Store.placesPerPage (t : Store) : Nat := 128 / t.recordSize

/-- The capacity of the log in records (R123). -/
def Store.capacity (t : Store) : Nat := t.logPages * t.placesPerPage

/-- A bank's number. -/
def bankNumber : Bank → Nat
  | .bank0 => 0
  | .bank1 => 1

/-- The page state of a bank (R119). -/
def Store.bank (t : Store) : Bank → PageState
  | .bank0 => t.bank0
  | .bank1 => t.bank1

/-- The store with the page state of one bank replaced. -/
def Store.setBank (t : Store) (b : Bank) (p : PageState) : Store :=
  match b with
  | .bank0 => { t with bank0 := p }
  | .bank1 => { t with bank1 := p }

/-- The logical page of a logical word address (R117). -/
def logicalPage (a : Nat) : Nat := (a - 0x4000) / 128

/-- The bank of logical page `p` under the map in force (R117). -/
def Store.bankOf (t : Store) (p : Nat) : Bank :=
  if (if t.interleaved then p % 2 else p / 64) = 0 then .bank0 else .bank1

/-- The physical page of logical page `p` within its bank (R117). -/
def Store.physicalPage (t : Store) (p : Nat) : Nat := if t.interleaved then p / 2 else p % 64

/-- The physical word a logical word address reaches, counted through bank 0 and then bank 1 (R117). -/
def Store.physicalWord (t : Store) (a : Nat) : Nat :=
  (bankNumber (t.bankOf (logicalPage a)) * 64 + t.physicalPage (logicalPage a)) * 128 + a % 128

end Sys2Proof.Machine
end

