-- ==== Sys2Proof/Machine/Flags.lean ====
section
/-! DEFINITION. Check codes, parities and the conditions computed from state: the cyclic checks (R7, R8), the
parity of feed messages (R66) and slot words (R103), the attention condition and ALERTN (R148), CHO (R31). -/

namespace Sys2Proof.Machine

/-! ## Cyclic checks -/

/-- One bit through a cyclic check register with generator `poly`, most significant bit first, no reflection. -/
def crcBit {n : Nat} (poly reg : BitVec n) (b : Bool) : BitVec n :=
  if (reg.msb ^^ b) then (reg <<< 1) ^^^ poly else reg <<< 1

/-- HEADER_CHECK over header octets 1 to 7 (R7). -/
def headerCheck (o : BitVec 64) : BitVec 8 :=
  (bitsMsbFirst (o.extractLsb' 8 56)).foldl (crcBit (0x07#8)) 0

/-- The data check over words, byte 3 of each first (R8). -/
def dataCheck (ws : List Word) : BitVec 16 :=
  (ws.flatMap bitsMsbFirst).foldl (crcBit (0x1021#16)) 0xFFFF

/-- Words followed by their data check, as octets in the order sent (R8). -/
def checkedOctets (ws : List Word) : List Octet :=
  ws.flatMap wordOctets ++ [(dataCheck ws).extractLsb' 8 8, (dataCheck ws).extractLsb' 0 8]

/-! ## Parities -/

/-- An odd number of bits is set. -/
def oddOnes (bs : List Bool) : Bool := bs.foldl (fun a b => a ^^ b) false

/-- A feed message holds an odd number of 1 bits: it has failed parity (R66). -/
def parityFails (bits : BitVec 25) : Bool := oddOnes (bitsMsbFirst bits)

/-- A 40-bit word with bits 1 and 0 set so that its odd-numbered and its even-numbered bits each hold an even
number of 1 bits (R103); `w` has 0 there. -/
def withCheckBits (w : BitVec 40) : BitVec 40 :=
  let odd := oddOnes ((List.range 20).map (fun k => w.getLsbD (2 * k + 1)))
  let even := oddOnes ((List.range 20).map (fun k => w.getLsbD (2 * k)))
  w ||| ((BitVec.ofBool odd).setWidth 40 <<< 1) ||| (BitVec.ofBool even).setWidth 40

/-! ## The node's pins -/

/-- The node is named exactly when NODE_ID is not 0 (R29). -/
def Ident.named (i : Ident) : Bool := i.nodeId ≠ 0

/-- The node is the chain head (R30). -/
def Ident.chainHead (i : Ident) : Bool := i.chi && !i.named

/-- CHO (R31). -/
def Ident.cho (i : Ident) : Bool := i.chi && i.named

/-- The codes of the event kinds (Table 8-1). -/
def EventKind.code : EventKind → Nat
  | .selftestDone => 1
  | .headerCheck => 2
  | .dataCheck => 3
  | .replyTruncated => 4
  | .broadcastIgnored => 5
  | .replyClash => 6
  | .beaconStray => 7
  | .feedParity => 8
  | .tableSwapped => 9
  | .commitLate => 10
  | .contentionLost => 11
  | .scheduleShort => 12
  | .scheduleLong => 13
  | .laneSilent => 14
  | .frameGap => 15
  | .logWatermark => 16
  | .logFull => 17
  | .appendDrop => 18

/-- The attention condition (R148). -/
def Events.attention (e : Events) : Bool :=
  e.queue.any (fun r => e.alert.getLsbD r.kind.code) || (e.lost ≠ 0 && e.alert.getLsbD 0)

/-- Whether ALERTN is to be pulled low: the attention condition, released in RESET (R148, R149). -/
def State.alertLow (s : State) : Bool := s.ctl.mode ≠ .reset && s.evu.attention

/-! ## Conditions of the log -/

/-- The log is on (R118). -/
def Store.logOn (t : Store) : Bool := t.logPages ≠ 0

/-- FULL (R123, R130). -/
def Store.full (t : Store) : Bool := t.logOn && t.count = t.capacity

/-- The oldest queued record would be dropped at the writer's next step (R126 case 1, R128). -/
def Store.dropsAtWriter (t : Store) : Bool := !t.logOn || (t.full && (!t.overwrite || t.inFlight ≠ 0))

/-- The logical page of record place `k` (R123). -/
def Store.placePage (t : Store) (k : Nat) : Nat := t.logFirst + k / t.placesPerPage

/-- The logical word address of record place `k` (R123). -/
def Store.placeAddress (t : Store) (k : Nat) : Nat := 0x4000 + t.logFirst * 128 + k * t.recordSize

/-- The place `n` places after `k` in the ring (R123). -/
def Store.placeAfter (t : Store) (k n : Nat) : Nat := (k + n) % t.capacity

/-- Logical page `p` is open in its bank (R119). -/
def Store.pageOpen (t : Store) (p : Nat) : Bool := t.bank (t.bankOf p) = .opened (t.physicalPage p)

/-- A bank is OPENING (R119). -/
def PageState.isOpening : PageState → Bool
  | .opening _ _ => true
  | _ => false

/-- The log writer claims a bank (R120). -/
def Store.claims (t : Store) (b : Bank) : Bool :=
  !t.queue.isEmpty && !t.dropsAtWriter && t.bankOf (t.placePage t.tail) = b

end Sys2Proof.Machine
end

