-- ==== Sys2Proof/Machine/Memory.lean ====
section
/-! DEFINITION. The bytes of the store (R117) in one canonical form, and the words made of them. An unlisted byte
reads 0, as every self-test leaves the store (R139, R154; DESIGN CHOICE, unsafe
before the first test: log entry 16). -/

namespace Sys2Proof.Machine

/-- What an unlisted byte reads as. -/
def Memory.unlisted : Octet := 0

/-- One byte. -/
def Memory.read : Memory → Nat → Octet
  | [], _ => Memory.unlisted
  | (b, v) :: rest, a => if b = a then v else Memory.read rest a

/-- One byte written, the canonical form kept. -/
def Memory.write : Memory → Nat → Octet → Memory
  | [], a, v => if v = Memory.unlisted then [] else [(a, v)]
  | (b, w) :: rest, a, v =>
    if a < b then (if v = Memory.unlisted then (b, w) :: rest else (a, v) :: (b, w) :: rest)
    else if a = b then (if v = Memory.unlisted then rest else (a, v) :: rest)
    else (b, w) :: Memory.write rest a v

/-- The canonical form above `lo`: addresses from `lo` up rise strictly, and no listed byte equals what an
unlisted one reads as. -/
def Memory.wfFrom : Nat → Memory → Bool
  | _, [] => true
  | lo, (a, v) :: rest => lo ≤ a && v ≠ Memory.unlisted && Memory.wfFrom (a + 1) rest

/-- The canonical form. -/
def Memory.wf (m : Memory) : Bool := Memory.wfFrom 0 m

/-- Physical word `i`: byte k, bits 8k+7 to 8k, at byte address 4i + k (R9). -/
def Memory.readWord (m : Memory) (i : Nat) : Word :=
  fieldAt 24 (Memory.read m (4 * i + 3)) ||| fieldAt 16 (Memory.read m (4 * i + 2))
    ||| fieldAt 8 (Memory.read m (4 * i + 1)) ||| fieldAt 0 (Memory.read m (4 * i))

/-- One byte written when its enable is set (R9). -/
def Memory.writeEnabled (m : Memory) (en : Bool) (a : Nat) (v : Octet) : Memory :=
  if en then Memory.write m a v else m

/-- The enabled bytes of physical word `i` written: bit k of `en` enables byte k (R9). -/
def Memory.writeWord (m : Memory) (i : Nat) (en : BitVec 4) (w : Word) : Memory :=
  let m0 := Memory.writeEnabled m (en.getLsbD 0) (4 * i) (w.extractLsb' 0 8)
  let m1 := Memory.writeEnabled m0 (en.getLsbD 1) (4 * i + 1) (w.extractLsb' 8 8)
  let m2 := Memory.writeEnabled m1 (en.getLsbD 2) (4 * i + 2) (w.extractLsb' 16 8)
  Memory.writeEnabled m2 (en.getLsbD 3) (4 * i + 3) (w.extractLsb' 24 8)

/-- The store word at a logical word address (R117). -/
def Store.readWord (t : Store) (a : Nat) : Word := Memory.readWord t.mem (t.physicalWord a)

/-- The store with the enabled bytes of the word at a logical word address written (R9, R117). -/
def Store.writeWord (t : Store) (a : Nat) (en : BitVec 4) (w : Word) : Store :=
  { t with mem := Memory.writeWord t.mem (t.physicalWord a) en w }

/-- Whole words written at consecutive logical word addresses. -/
def Store.writeWords (t : Store) (a : Nat) : List Word → Store
  | [] => t
  | w :: ws => Store.writeWords (t.writeWord a 0xF w) (a + 1) ws

end Sys2Proof.Machine
end

