-- ==== Sys2Proof/Machine/Ops.lean ====
section
/-! DEFINITION. The shared operations: raising an event, the counting of link units, validation and swap of tables,
page opens, emptying the log, leaving RUN, entering QUIET, the three resets, leaving RESET. Each is one update of
the blocks it touches. -/

namespace Sys2Proof.Machine

/-! ## Events -/

/-- What the event unit does with a raised event: nothing in RESET or when the kind is disabled, LOST when the
queue is full, otherwise a new newest record with the current serial (R140, R142). -/
def Events.push (e : Events) (inReset : Bool) (k : EventKind) (detail frame : BitVec 16) : Events :=
  if inReset || !e.enable.getLsbD k.code then e
  else if e.queue.length ≥ 16 then { e with lost := satInc e.lost }
  else { e with queue := e.queue ++ [⟨k, detail, frame, e.serial⟩], serial := e.serial + 1 }

/-- An event is raised; its FRAME is the frame number held at this instant (R140, R142). -/
def State.raise (s : State) (k : EventKind) (detail : BitVec 16) : State :=
  { s with evu := s.evu.push (s.ctl.mode = .reset) k detail s.lane.frame }

/-! ## Link units -/

/-- The instant of an event of place `p`, with nothing else taken at it. -/
def Moment.fresh (p : Nat) : Moment := { place := p, unit := false, marker := false, begun := [] }

/-- A unit that ends at the instant counts for `c`: it has not begun at this very instant, since each is a count of the
units received afterwards (R119, R151, R163; log entry 28). -/
def Moment.counts (m : Moment) (c : TimedCount) : Bool := !m.begun.contains c

/-- A bank after one unit: an open in progress counts down (R119). -/
def PageState.countUnit : PageState → PageState
  | .opening q n => .opening q (n - 1)
  | p => p

/-- The banks after a unit that ends at instant `m`, which makes a writer step due unless the writer has taken the step of
that instant (place 60; R119, R126). -/
def Store.countUnit (t : Store) (m : Moment) : Store :=
  { t with
    bank0 := if m.counts (.opening .bank0) then t.bank0.countUnit else t.bank0
    bank1 := if m.counts (.opening .bank1) then t.bank1.countUnit else t.bank1
    writerDue := t.writerDue || m.place < 60 }

/-- The frame watch after one unit that it counts (R114). -/
def Lane.countUnit (l : Lane) : Lane := { l with watchCount := l.watchCount + 1 }

/-- A running self-test phase after a unit that ends at instant `m` (R151). -/
def SelfTest.countUnit (t : SelfTest) (m : Moment) : SelfTest :=
  { t with units := if t.phase ≠ .idle && m.counts .phase then t.units + 1 else t.units }

/-- A soft reset's internal step after a unit that ends at instant `m` (R163). -/
def Control.countUnit (c : Control) (m : Moment) : Control :=
  { c with softStep := if m.counts .softStep then c.softStep.map (· - 1) else c.softStep }

/-- A link unit ends at instant `m`: every timed count of R169 but the receive state's own advances, unless it has begun at
this instant (R1). The frame watch counts in RUN, and only when no marker has reset it at the same instant (R114). -/
def State.countUnit (s : State) (m : Moment) : State :=
  { s with
    link := { s.link with units := s.link.units + 1 }
    ctl := s.ctl.countUnit m
    stl := s.stl.countUnit m
    lane := if !m.marker && s.ctl.mode = .run then s.lane.countUnit else s.lane
    ste := s.ste.countUnit m }

/-- The node with another receive state. -/
def State.withRx (s : State) (rx : RxState) : State := { s with link := { s.link with rx := rx } }

/-! ## Schedule tables -/

/-- The first failure of validation at entry `k`, if any (R82 cases 1 and 2). -/
def Capture.entryFailure (c : Capture) (e : Word) : Option CheckResult :=
  if !entryDrive e then none
  else if 34 ≤ entryChannel e then some .badChannel
  else if entryChannel e < 32 && !(c.channel (entryChannel e)).enabled then some .channelDisabled
  else none

/-- Validation of the entries from `k` on, `n` of them still to examine (R82). -/
def Capture.validateFrom (c : Capture) (t : Table) (ofActive : Bool) (k : Nat) : Nat → TableCheck
  | 0 => { result := .noEnd, ofActive := ofActive, index := 255, length := 0 }
  | n + 1 =>
    match c.entryFailure (t.entry k) with
    | some why => { result := why, ofActive := ofActive, index := k, length := 0 }
    | none =>
      if entryEnd (t.entry k) then { result := .valid, ofActive := ofActive, index := k, length := k + 1 }
      else c.validateFrom t ofActive (k + 1) n

/-- Validation of the ACTIVE table (for START_RUN) or of the STAGED one (for COMMIT), as TABLE_CHECK records it
(R82, R83). -/
def State.validate (s : State) (ofActive : Bool) : TableCheck :=
  s.cap.validateFrom (if ofActive then s.sct.active else s.sct.staged) ofActive 0 256

/-- The two roles exchanged, the pending commit ended (R79, R89). -/
def Tables.swap (t : Tables) : Tables := { t with firstActive := !t.firstActive, commit := none }

/-- The causes of a swap in TABLE_SWAPPED (R93). -/
inductive SwapCause where
  | now
  | frame
  | target
  | stop
  deriving DecidableEq, Repr

/-- The cause codes of R93. -/
def SwapCause.code : SwapCause → BitVec 8
  | .now => 1
  | .frame => 2
  | .target => 3
  | .stop => 4

/-- DETAIL made of two octets. -/
def octets2 (hi lo : BitVec 8) : BitVec 16 := hi ++ lo

/-- A swap with its event: the cause, and the length of the new ACTIVE table minus one (R79, R93). -/
def State.swapTables (s : State) (cause : SwapCause) : State :=
  let s1 := { s with sct := s.sct.swap }
  s1.raise .tableSwapped (octets2 cause.code (BitVec.ofNat 8 (s1.sct.active.length - 1)))

/-! ## Store and log -/

/-- An open of logical page `p` is started in its bank, whatever the bank's state was (R119). -/
def Store.startOpen (t : Store) (p : Nat) : Store := t.setBank (t.bankOf p) (.opening (t.physicalPage p) 20)

/-- What a store access or DRAIN deferred for logical page `p` starts: the open of its page, unless the bank is
OPENING or claimed by the log writer (R120, R122). -/
def Store.openForDeferred (t : Store) (p : Nat) : Store :=
  if (t.bank (t.bankOf p)).isOpening || t.claims (t.bankOf p) then t else t.startOpen p

/-- The append queue emptied; the drop episode is armed again (R125, R138). -/
def Store.emptyQueue (t : Store) : Store := { t with queue := [], disarmed := false }

/-- The log emptied: no record, no record in flight, head and tail at place 0, the loss counts 0 (R138). -/
def Store.emptyLog (t : Store) : Store :=
  { t with head := 0, tail := 0, count := 0, inFlight := 0, dropped := 0, overwritten := 0 }

/-- The log emptied as LOG_RESET does: the append queue and the drain memory with it (R138). -/
def State.resetLog (s : State) : State :=
  { s with
    stl := s.stl.emptyLog.emptyQueue
    link := { s.link with drain := { s.link.drain with valid := false } } }

/-! ## Lane -/

/-- The walk state outside RUN (R97, R113). -/
def Lane.leave (l : Lane) : Lane :=
  { l with
    sub := .none
    slotIndex := 0
    inSlot := false
    markerSeen := false
    shortSeen := false
    unmute := false
    watchCount := 0
    watchExpired := false
    drive := none }

/-- The mute, the unmute pending and the fault record cleared (R98, R116). -/
def Lane.clearFaults (l : Lane) : Lane :=
  { l with muted := false, unmute := false, fault := FaultRecord.clear, faultCount := 0 }

/-- A pending commit is carried out on leaving RUN, with cause STOP (R92). -/
def State.commitOnStop (s : State) : State := if s.sct.commit.isSome then s.swapTables .stop else s

/-- The node leaves RUN by a stop (R47, R92, R113): a pending commit is carried out first, then the node is in
SETUP with no pending stop, its walk state cleared and its lines released. -/
def State.leaveRun (s : State) : State :=
  let s1 := s.commitOnStop
  { s1 with ctl := { s1.ctl with mode := .setup, stop := none }, lane := s1.lane.leave }

/-! ## QUIET -/

/-- A latest sample marked NODATA (R77). -/
def Sample.markNoData (x : Sample) : Sample := { x with noData := true, fresh := false }

/-- A capture channel marked NODATA (R77). -/
def Channel.markNoData (c : Channel) : Channel := { c with sample := c.sample.markNoData }

/-- The node enters QUIET: every capture channel is marked NODATA and the link interface listens for beacons only
(R48, R77, R168). -/
def State.goQuiet (s : State) : State :=
  { s with
    ctl := { s.ctl with mode := .quiet }
    cap := { s.cap with channels := s.cap.channels.map Channel.markNoData }
    link := { s.link with rx := .listen } }

/-! ## Resets -/

/-- The reset is a soft reset. -/
def ResetCause.isSoft (k : ResetCause) : Bool := k = .soft

/-- The link interface at a reset: LISTEN, counters 0, both memories invalid; LINK_CFG kept by a soft reset (R21,
R27, R139). The beacon counter and the count of units go on (R54). -/
def Link.reset (l : Link) (k : ResetCause) : Link :=
  { l with
    rx := .listen
    cfg := if k.isSoft then l.cfg else 0x00000024
    headerErrors := 0
    dataErrors := 0
    clashes := 0
    bcastMissed := 0
    mem := { l.mem with valid := false }
    drain := { l.drain with valid := false } }

/-- NODE_ID at a reset: 0, but kept by a soft reset (R29, R40). -/
def Ident.reset (i : Ident) (k : ResetCause) : Ident := if k.isSoft then i else { i with nodeId := 0 }

/-- The controller at a reset (R43, R163, R164): no stop is pending; a soft reset starts its internal step, which
goes on counting under a pin or link reset. -/
def Control.reset (c : Control) (k : ResetCause) : Control :=
  { c with
    mode := .reset
    stop := none
    resetCause := k
    softStep := if k.isSoft then some 16 else c.softStep }

/-- The capture port at any reset, set at the instant the reset begins (R65, R68, R78, R162, R163). R160 says of the
capture state that it keeps what an interrupted phase had made of it until the next test: that R78 is followed there is
DEDUCED, log entry 26. -/
def Capture.reset : Capture where
  feedCfg := 0x0000000F
  span := 0x00040000
  feeds := Vector.replicate 4 Feed.initial
  channels := Vector.replicate 32 Channel.initial

/-- The tables at any reset: the pending commit is discarded without a swap and TABLE_CHECK is NONE (R83, R92);
the entries stand until the self-test rewrites them (R160). -/
def Tables.reset (t : Tables) : Tables := { t with commit := none, check := TableCheck.blank }

/-- The lane sequencer at any reset (R116). -/
def Lane.reset : Lane where
  sub := .none
  slotIndex := 0
  inSlot := false
  markerSeen := false
  shortSeen := false
  frame := 0
  muted := false
  unmute := false
  fault := FaultRecord.clear
  faultCount := 0
  watchCfg := 0
  watchCount := 0
  watchExpired := false
  drive := none

/-- The store and log at any reset (R139); the store words stand until the self-test writes them. -/
def Store.reset (t : Store) : Store where
  mem := t.mem
  bank0 := .none
  bank1 := .none
  cfg := 0
  watermark := 0
  head := 0
  tail := 0
  count := 0
  inFlight := 0
  dropped := 0
  overwritten := 0
  serial := 0
  queue := []
  disarmed := false
  writerDue := false

/-- The event unit at a reset: emptied, ALERTN released; the enables are kept by a soft reset (R149, R150). -/
def Events.reset (e : Events) (k : ResetCause) : Events where
  queue := []
  lost := 0
  serial := 0
  enable := if k.isSoft then e.enable else 0x0007FF7A
  alert := if k.isSoft then e.alert else 0
  alertn := false

/-- The self-test engine at a reset: a running test is abandoned, no FAIL bit set for its phase (R160). -/
def SelfTest.reset (t : SelfTest) : SelfTest := { t with phase := .idle, units := 0, storeFaults := [] }

/-- A reset of kind `k` begins (R43, R163 to R166, Table 10-1): every block takes its reset value at this instant
and the node is in RESET. -/
def State.beginReset (s : State) (k : ResetCause) : State where
  link := s.link.reset k
  ident := s.ident.reset k
  ctl := s.ctl.reset k
  cap := Capture.reset
  sct := s.sct.reset
  lane := Lane.reset
  stl := s.stl.reset
  evu := s.evu.reset k
  ste := s.ste.reset
  user := if k.isSoft then s.user else Vector.replicate 4 0
  now := s.now
  pending := s.pending

/-- Some reset cause holds: RSTN low, a beacon run of 64 or more units going on, or a soft reset's internal step
(R43, R44). -/
def State.resetHeld (s : State) : Bool :=
  s.ctl.rstnLow || 64 ≤ s.link.beacons.toNat || s.ctl.softStep.isSome

/-- The self-test engine when a test begins: signature running, no failure, phase S1, address 0 (R151); the
LINK_CFG then held times the replies (R13). -/
def SelfTest.begin (linkCfg : Word) : SelfTest where
  signature := 0x7E570000
  fails := 0
  phase := .s1
  address := 0
  units := 0
  savedLinkCfg := linkCfg
  storeFaults := []

/-- A self-test begins: the node is in SELFTEST with TEST_PASSED clear (R44, R52, R151). -/
def State.beginSelftest (s : State) : State :=
  { s with
    ste := SelfTest.begin s.link.cfg
    ctl := { s.ctl with mode := .selftest, testPassed := false } }

/-- The feed receivers when the node leaves RESET: one whose line is in the middle of a message waits for idle
(R63). -/
def Capture.releaseFeeds (c : Capture) (mid : BitVec 4) : Capture :=
  { c with feeds := c.feeds.mapFinIdx (fun i f _ =>
      { f with rx := if mid.getLsbD i then FeedRx.waitIdle else FeedRx.framing }) }

/-- The node leaves RESET for SELFTEST when it is in RESET and no reset cause holds (R44). -/
def State.tryLeaveReset (s : State) (mid : BitVec 4) : State :=
  if s.ctl.mode = .reset && !s.resetHeld then { s with cap := s.cap.releaseFeeds mid }.beginSelftest else s

/-! ## The end of a reply -/

/-- What follows a reply at the instant it ends: nothing, entry to QUIET, or the soft reset (R48, R51, R165). -/
def State.afterReply (s : State) (a : AfterReply) : State :=
  match a with
  | .nothing => s
  | .enterQuiet => s.goQuiet
  | .softReset => s.beginReset .soft

/-- The reply has ended: the link is released, the link interface returns to LISTEN (R3, R13), and what the
request left for this instant happens. -/
def State.endReply (s : State) (r : Reply) : State := (s.withRx .listen).afterReply r.after

/-- The reply owed or being sent, with the number of its octets completely sent (R25): the token's three come
first. -/
def RxState.reply? : RxState → Option (Reply × Nat)
  | .ackWait r _ => some (r, 0)
  | .token r k => some (r, k)
  | .readWait r _ => some (r, 3)
  | .readData r k => some (r, 3 + k)
  | _ => none

end Sys2Proof.Machine
end

