-- ==== Sys2Proof/Machine/Registers.lean ====
section
/-! DEFINITION. The address space: regions and access types (R171, R172, Table 11-1), what every word reads as
(R174) and what an accepted write of a word does. -/

namespace Sys2Proof.Machine

/-! ## Regions and access types -/

/-- The regions (R171). -/
inductive Region where
  | registers
  | eventWindow
  | channelTable
  | latestSamples
  | supersedeCounts
  | activeWindow
  | stagedWindow
  | store
  deriving DecidableEq, Repr

/-- The words Table 11-1 places in the register region. -/
def placedRegister (a : Nat) : Bool :=
  a ≤ 0x006 || (0x008 ≤ a && a ≤ 0x00E) || (0x010 ≤ a && a ≤ 0x014) || (0x018 ≤ a && a ≤ 0x01C)
    || (0x020 ≤ a && a ≤ 0x023) || (0x028 ≤ a && a ≤ 0x02A) || (0x030 ≤ a && a ≤ 0x033)

/-- The region of a word; none for an unassigned one (R171). -/
def regionOf (a : Nat) : Option Region :=
  if placedRegister a then some .registers
  else if 0x040 ≤ a ∧ a ≤ 0x05F then some .eventWindow
  else if 0x100 ≤ a ∧ a ≤ 0x11F then some .channelTable
  else if 0x140 ≤ a ∧ a ≤ 0x161 then some .latestSamples
  else if 0x180 ≤ a ∧ a ≤ 0x19F then some .supersedeCounts
  else if 0x200 ≤ a ∧ a ≤ 0x2FF then some .activeWindow
  else if 0x300 ≤ a ∧ a ≤ 0x3FF then some .stagedWindow
  else if 0x4000 ≤ a ∧ a ≤ 0x7FFF then some .store
  else none

/-- The registers that are wholly read-only (Table 11-1). -/
def readOnlyRegister (a : Nat) : Bool :=
  [0x000, 0x001, 0x002, 0x003, 0x006, 0x008, 0x009, 0x00A, 0x00B, 0x00C, 0x01A, 0x01C, 0x020, 0x028, 0x029,
    0x02A].contains a

/-- A word that no WRITE may touch (R172). -/
def readOnlyWord (a : Nat) : Bool :=
  match regionOf a with
  | some .registers => readOnlyRegister a
  | some .eventWindow => true
  | some .latestSamples => true
  | _ => false

/-- The word addresses a READ or WRITE covers (R6), one when COUNT is 0 (R16). -/
def Header.coveredWords (h : Header) : List Nat := (List.range h.covered).map (h.address.toNat + ·)

/-! ## What words read as -/

/-- IDENT (R28). -/
def identWord : Word := 0x4B71A302

/-- The STATE codes (R53). -/
def Mode.code : Mode → Nat
  | .reset => 0
  | .selftest => 1
  | .setup => 2
  | .run => 3
  | .quiet => 4

/-- The RUN_SUB codes (R53). -/
def RunSub.code : RunSub → Nat
  | .none => 0
  | .awaitFrame => 1
  | .walking => 2
  | .frameDone => 3

/-- The RESET_CAUSE codes (R53). -/
def ResetCause.code : ResetCause → Nat
  | .powerPin => 1
  | .link => 2
  | .soft => 3

/-- NODE_STATE (R53). -/
def State.nodeStateWord (s : State) : Word :=
  natAt 3 0 s.ctl.mode.code ||| natAt 2 4 s.lane.sub.code ||| flagAt 6 s.ident.named ||| flagAt 7 s.ident.chi
    ||| flagAt 8 s.ident.cho ||| flagAt 9 s.ctl.stop.isSome ||| flagAt 10 (s.ctl.stop = some .atFrame)
    ||| flagAt 11 s.ctl.testPassed ||| natAt 2 12 s.ctl.resetCause.code

/-- LINK_STATUS (R26). -/
def Link.statusWord (l : Link) : Word :=
  fieldAt 0 l.headerErrors ||| fieldAt 8 l.dataErrors ||| fieldAt 16 l.clashes ||| fieldAt 24 l.bcastMissed

/-- LAST_SEQ (R21). -/
def Link.lastSeqWord (l : Link) : Word := fieldAt 0 l.mem.seq ||| flagAt 8 l.mem.valid

/-- LENGTH of LANE_STATUS: the ACTIVE table's length, 0 from the start of a self-test to the end of S2 (R115). -/
def State.laneLength (s : State) : Nat :=
  if s.ste.phase = .s1 ∨ s.ste.phase = .s2 then 0 else s.sct.active.length

/-- The pending commit is targeted and not late (R115). -/
def Commit.waitsForTarget (c : Commit) : Bool := c.targeted && !c.late

/-- LANE_STATUS (R115). -/
def State.laneStatusWord (s : State) : Word :=
  flagAt 0 s.lane.muted ||| flagAt 1 s.lane.unmute ||| flagAt 2 s.sct.commit.isSome
    ||| flagAt 3 (s.sct.commit.any Commit.waitsForTarget) ||| natAt 2 4 s.lane.sub.code
    ||| flagAt 6 s.lane.markerSeen ||| flagAt 7 s.lane.watchExpired ||| natAt 9 8 s.laneLength
    ||| natAt 9 17 s.lane.slotIndex ||| flagAt 26 s.lane.inSlot ||| flagAt 27 s.lane.shortSeen

/-- The FIRST_KIND codes (R110). -/
def LaneFault.code : LaneFault → Nat
  | .none => 0
  | .contentionLost => 1
  | .scheduleShort => 2
  | .scheduleLong => 3

/-- LANE_FAULT (R110). -/
def Lane.faultWord (l : Lane) : Word :=
  natAt 2 0 l.fault.kind.code ||| natAt 3 2 l.fault.lostBit ||| natAt 9 8 l.fault.slot ||| fieldAt 24 l.faultCount

/-- LANE_FAULT_FRAME (R110). -/
def Lane.faultFrameWord (l : Lane) : Word := fieldAt 0 l.fault.frame ||| fieldAt 16 l.frame

/-- COMMIT_TARGET (R88). -/
def Tables.commitWord (t : Tables) : Word :=
  match t.commit with
  | some c => fieldAt 0 c.target ||| flagAt 16 c.targeted ||| flagAt 17 true ||| flagAt 18 c.late
  | none => 0

/-- The RESULT codes (R83). -/
def CheckResult.code : CheckResult → Nat
  | .none => 0
  | .valid => 1
  | .noEnd => 2
  | .badChannel => 3
  | .channelDisabled => 4

/-- TABLE_CHECK (R83). -/
def TableCheck.word (c : TableCheck) : Word :=
  natAt 3 0 c.result.code ||| flagAt 3 c.ofActive ||| natAt 8 8 c.index ||| natAt 9 16 c.length

/-- A FEED_STATUS word (R68). -/
def Feed.statusWord (f : Feed) : Word := fieldAt 0 f.parityErrors ||| fieldAt 8 f.unclaimed

/-- LOG_STATUS (R130). -/
def State.logStatusWord (s : State) : Word :=
  natAt 14 0 s.stl.count ||| natAt 5 16 s.stl.inFlight ||| flagAt 24 s.stl.full
    ||| natAt 4 25 s.stl.queue.length ||| flagAt 29 s.stl.disarmed ||| flagAt 30 s.link.drain.valid

/-- LOG_LOSS (R131). -/
def Store.lossWord (t : Store) : Word := fieldAt 0 t.dropped ||| fieldAt 16 t.overwritten

/-- EVENT_STATUS (R146). -/
def Events.statusWord (e : Events) : Word :=
  natAt 5 0 e.queue.length ||| fieldAt 8 e.lost ||| flagAt 16 e.attention ||| fieldAt 24 e.serial

/-- The PHASE codes (R157). -/
def Phase.code : Phase → Nat
  | .idle => 0
  | .s1 => 1
  | .s2 => 2
  | .s3 => 3
  | .s4 => 4
  | .s5 => 5
  | .s6 => 6

/-- SELFTEST_DETAIL (R157). -/
def SelfTest.detailWord (t : SelfTest) : Word := fieldAt 0 t.fails ||| natAt 3 8 t.phase.code

/-- USER0 to USER3 (R170). -/
def State.userWord (s : State) (k : Nat) : Word := s.user[k]?.getD 0

/-- What a placed register reads as (Table 11-1, R174). -/
def State.readRegister (s : State) (a : Nat) : Word :=
  match a with
  | 0x000 => identWord
  | 0x001 => Config.serial
  | 0x002 => fieldAt 0 s.ident.nodeId
  | 0x003 => s.nodeStateWord
  | 0x004 => s.link.cfg
  | 0x005 => s.link.statusWord
  | 0x006 => s.link.lastSeqWord
  | 0x008 => s.laneStatusWord
  | 0x009 => s.lane.faultWord
  | 0x00A => s.lane.faultFrameWord
  | 0x00B => s.sct.commitWord
  | 0x00C => s.sct.check.word
  | 0x00D => s.lane.watchCfg
  | 0x00E => s.cap.span
  | 0x010 => s.cap.feedCfg
  | 0x011 => (s.cap.feed 0).statusWord
  | 0x012 => (s.cap.feed 1).statusWord
  | 0x013 => (s.cap.feed 2).statusWord
  | 0x014 => (s.cap.feed 3).statusWord
  | 0x018 => s.stl.cfg
  | 0x019 => s.stl.watermark
  | 0x01A => s.logStatusWord
  | 0x01B => s.stl.lossWord
  | 0x01C => s.stl.serial
  | 0x020 => s.evu.statusWord
  | 0x021 => s.evu.enable
  | 0x022 => s.evu.alert
  | 0x028 => s.ste.signature
  | 0x029 => s.ste.detailWord
  | 0x02A => fieldAt 0 s.ste.address
  | 0x030 => s.userWord 0
  | 0x031 => s.userWord 1
  | 0x032 => s.userWord 2
  | 0x033 => s.userWord 3
  | _ => 0

/-- The word of an event record at an even offset (R143). -/
def EventRecord.firstWord (r : EventRecord) : Word :=
  fieldAt 0 r.detail ||| natAt 5 16 r.kind.code ||| fieldAt 24 r.serial

/-- Word `k` of the event window (R143): places at or beyond the depth read as 0. -/
def Events.windowWord (e : Events) (k : Nat) : Word :=
  match e.queue[k / 2]? with
  | some r => if k % 2 = 0 then r.firstWord else fieldAt 0 r.frame
  | none => 0

/-- A capture channel's word in the latest-sample window (R74). -/
def Sample.word (x : Sample) : Word :=
  fieldAt 0 x.value ||| fieldAt 20 x.seq ||| flagAt 28 x.fresh ||| flagAt 29 x.noData ||| flagAt 30 x.overRange

/-- A reference channel's word in the latest-sample window (R75). -/
def referenceWord (value : BitVec 20) (frame : BitVec 16) : Word :=
  fieldAt 0 value ||| fieldAt 20 (frame.extractLsb' 0 8) ||| flagAt 31 true

/-- Word `c` of the latest-sample window (R74, R75). -/
def State.latestWord (s : State) (c : Nat) : Word :=
  if c < 32 then (s.cap.channel c).sample.word
  else if c = 32 then referenceWord 0 s.lane.frame
  else referenceWord s.cap.spanValue s.lane.frame

/-- What an assigned word reads as (R174). -/
def State.readWord (s : State) (a : Nat) : Word :=
  match regionOf a with
  | some .registers => s.readRegister a
  | some .eventWindow => s.evu.windowWord (a - 0x040)
  | some .channelTable => (s.cap.channel (a - 0x100)).record
  | some .latestSamples => s.latestWord (a - 0x140)
  | some .supersedeCounts => fieldAt 0 (s.cap.channel (a - 0x180)).superseded
  | some .activeWindow => s.sct.active.entry (a - 0x200)
  | some .stagedWindow => s.sct.staged.entry (a - 0x300)
  | some .store => s.stl.readWord a
  | none => 0

/-! ## What an accepted write does, word by word -/

/-- The bits of a writable register, a channel record or a table entry that are stored: those that carry a field, and
all of a USER word or an entry; every other bit reads as 0 (R14, R65, R69, R80, R114, R118, R131, R147, R162, R170,
R172, R174). -/
def storedBits (a : Nat) : Word :=
  match a with
  | 0x004 => 0x000000FF
  | 0x00D => 0x000000FF
  | 0x00E => 0x000FFFFF
  | 0x010 => 0x0000000F
  | 0x018 => 0x00FF7F07
  | 0x019 => 0x00003FFF
  | 0x021 => 0x0007FFFE
  | 0x022 => 0x0007FFFF
  | a => if 0x100 ≤ a ∧ a ≤ 0x11F then 0x00001F03 else 0xFFFFFFFF

/-- A counter of a clear-on-zero word: cleared when its written field is 0 (R172). -/
def clearOnZero {n : Nat} (counter written : BitVec n) : BitVec n := if written = 0 then 0 else counter

/-- LINK_STATUS written (R26). -/
def Link.writeStatus (l : Link) (w : Word) : Link :=
  { l with
    headerErrors := clearOnZero l.headerErrors (w.extractLsb' 0 8)
    dataErrors := clearOnZero l.dataErrors (w.extractLsb' 8 8)
    clashes := clearOnZero l.clashes (w.extractLsb' 16 8)
    bcastMissed := clearOnZero l.bcastMissed (w.extractLsb' 24 8) }

/-- A FEED_STATUS word written (R68). -/
def Feed.writeStatus (f : Feed) (w : Word) : Feed :=
  { f with
    parityErrors := clearOnZero f.parityErrors (w.extractLsb' 0 8)
    unclaimed := clearOnZero f.unclaimed (w.extractLsb' 8 8) }

/-- FRAME_WATCH written: the limit, the count 0, the expired flag clear (R114). -/
def Lane.writeWatch (l : Lane) (w : Word) : Lane :=
  { l with watchCfg := w &&& storedBits 0x00D, watchCount := 0, watchExpired := false }

/-- LOG_LOSS written (R131). -/
def Store.writeLoss (t : Store) (w : Word) : Store :=
  { t with
    dropped := clearOnZero t.dropped (w.extractLsb' 0 16)
    overwritten := clearOnZero t.overwritten (w.extractLsb' 16 16) }

/-- The oldest records retired, as many as RETIRE_COUNT says (R144 action 1). -/
def Events.retire (e : Events) (w : Word) : Events := { e with queue := e.queue.drop (w.extractLsb' 0 5).toNat }

/-- LOST cleared when CLEAR_LOST is 1 (R144 action 2, R145). -/
def Events.clearLost (e : Events) (w : Word) : Events := { e with lost := if w.getLsbD 8 then 0 else e.lost }

/-- A channel record written: its fields stored, its decimation counter 0 (R69, R70). -/
def Channel.writeRecord (c : Channel) (w : Word) : Channel := { c with record := w &&& storedBits 0x100, decim := 0 }

/-- A supersede count word written (R76). -/
def Channel.writeSuperseded (c : Channel) (w : Word) : Channel :=
  { c with superseded := clearOnZero c.superseded (w.extractLsb' 0 8) }

/-- LINK_CFG stored (R14). -/
def State.writeLinkCfg (s : State) (w : Word) : State :=
  { s with link := { s.link with cfg := w &&& storedBits 0x004 } }

/-- SPAN_VALUE stored (R162). -/
def State.writeSpan (s : State) (w : Word) : State :=
  { s with cap := { s.cap with span := w &&& storedBits 0x00E } }

/-- FEED_CFG stored (R65). -/
def State.writeFeedCfg (s : State) (w : Word) : State :=
  { s with cap := { s.cap with feedCfg := w &&& storedBits 0x010 } }

/-- A FEED_STATUS word written. -/
def State.writeFeedStatus (s : State) (f : Nat) (w : Word) : State :=
  { s with cap := s.cap.setFeed f ((s.cap.feed f).writeStatus w) }

/-- STORE_CFG stored; the log is emptied as by LOG_RESET (R118). -/
def State.writeStoreCfg (s : State) (w : Word) : State :=
  { s with stl := { s.stl with cfg := w &&& storedBits 0x018 } }.resetLog

/-- LOG_WATERMARK stored (R131). -/
def State.writeWatermark (s : State) (w : Word) : State :=
  { s with stl := { s.stl with watermark := w &&& storedBits 0x019 } }

/-- EVENT_ENABLE stored (R147). -/
def State.writeEventEnable (s : State) (w : Word) : State :=
  { s with evu := { s.evu with enable := w &&& storedBits 0x021 } }

/-- ALERT_ENABLE stored (R147). -/
def State.writeAlertEnable (s : State) (w : Word) : State :=
  { s with evu := { s.evu with alert := w &&& storedBits 0x022 } }

/-- A USER word stored (R170). -/
def State.writeUser (s : State) (k : Nat) (w : Word) : State := { s with user := s.user.setIfInBounds k w }

/-- A channel replaced by what a write makes of it. -/
def State.updateChannel (s : State) (c : Nat) (f : Channel → Channel) : State :=
  { s with cap := s.cap.setChannel c (f (s.cap.channel c)) }

/-- Entry `k` of the ACTIVE table, or of the STAGED one, replaced (R85, R86). -/
def Tables.writeEntry (t : Tables) (ofActive : Bool) (k : Nat) (w : Word) : Tables :=
  if t.firstActive = ofActive then { t with first := t.first.setIfInBounds k w }
  else { t with second := t.second.setIfInBounds k w }

/-- An accepted write of one writable register (Table 11-1). -/
def State.writeRegister (s : State) (a : Nat) (w : Word) : State :=
  match a with
  | 0x004 => s.writeLinkCfg w
  | 0x005 => { s with link := s.link.writeStatus w }
  | 0x00D => { s with lane := s.lane.writeWatch w }
  | 0x00E => s.writeSpan w
  | 0x010 => s.writeFeedCfg w
  | 0x011 => s.writeFeedStatus 0 w
  | 0x012 => s.writeFeedStatus 1 w
  | 0x013 => s.writeFeedStatus 2 w
  | 0x014 => s.writeFeedStatus 3 w
  | 0x018 => s.writeStoreCfg w
  | 0x019 => s.writeWatermark w
  | 0x01B => { s with stl := s.stl.writeLoss w }
  | 0x021 => s.writeEventEnable w
  | 0x022 => s.writeAlertEnable w
  | 0x023 => { s with evu := (s.evu.retire w).clearLost w }
  | 0x030 => s.writeUser 0 w
  | 0x031 => s.writeUser 1 w
  | 0x032 => s.writeUser 2 w
  | 0x033 => s.writeUser 3 w
  | _ => s

/-- An accepted write of one word outside the store (R172). -/
def State.writeWord (s : State) (a : Nat) (w : Word) : State :=
  match regionOf a with
  | some .registers => s.writeRegister a w
  | some .channelTable => s.updateChannel (a - 0x100) (·.writeRecord w)
  | some .supersedeCounts => s.updateChannel (a - 0x180) (·.writeSuperseded w)
  | some .activeWindow => { s with sct := s.sct.writeEntry true (a - 0x200) w }
  | some .stagedWindow => { s with sct := s.sct.writeEntry false (a - 0x300) w }
  | _ => s

/-- The words of an accepted write acting in ascending address order (R10, R173). -/
def State.writeFrom (s : State) (a : Nat) : List Word → State
  | [] => s
  | w :: ws => (s.writeWord a w).writeFrom (a + 1) ws

/-- The byte enables of word `k` of a store write of `n` words (R9). -/
def Header.enables (h : Header) (k n : Nat) : BitVec 4 :=
  (if k = 0 then h.firstEn else 0xF) &&& (if k + 1 = n then h.lastEn else 0xF)

/-- The words of an accepted store write, from word `k` of `n` on (R9, R121). -/
def Store.writeStoreFrom (t : Store) (h : Header) (k n : Nat) : List Word → Store
  | [] => t
  | w :: ws => (t.writeWord (h.address.toNat + k) (h.enables k n) w).writeStoreFrom h (k + 1) n ws

/-- A write's value lies outside a field's range (step 13 of R16). -/
def badValue (a : Nat) (w : Word) : Bool :=
  if a = 0x004 then
    let d := (w.extractLsb' 0 4).toNat
    let r := (w.extractLsb' 4 4).toNat
    !(2 ≤ d && d ≤ 9 && 1 ≤ r && r ≤ 8)
  else if a = 0x018 then
    let first := (w.extractLsb' 8 7).toNat
    let pages := (w.extractLsb' 16 8).toNat
    128 < pages || (pages ≠ 0 && 128 < first + pages)
  else if a = 0x019 then 8192 < (w.extractLsb' 0 14).toNat
  else if a = 0x023 then 16 < (w.extractLsb' 0 5).toNat
  else if 0x100 ≤ a ∧ a ≤ 0x11F then
    let n := (w.extractLsb' 8 5).toNat
    !(1 ≤ n && n ≤ 16)
  else false

end Sys2Proof.Machine
end

