-- ==== Sys2Proof/Machine/FrameWatch.lean ====
section
/-! DEFINITION. The frame watch (R114). -/

namespace Sys2Proof.Machine

/-- The frame watch counts towards its limit: in RUN, on, and not expired (R114). -/
def State.watchRuns (s : State) : Bool :=
  s.ctl.mode = .run && s.lane.watchLimit ≠ 0 && !s.lane.watchExpired

/-- DETAIL of LANE_SILENT (R114). -/
def Lane.silentDetail (l : Lane) : BitVec 16 := octets2 (BitVec.ofNat 8 l.sub.code) (l.watchCfg.extractLsb' 0 8)

/-- The frame watch at the end of an instant: at its limit it raises LANE_SILENT and sets the expired flag (R114). -/
def State.expireWatch (s : State) : State :=
  if s.watchRuns && s.lane.watchLimit ≤ s.lane.watchCount then
    let s1 := s.raise .laneSilent s.lane.silentDetail
    { s1 with lane := { s1.lane with watchExpired := true } }
  else s

end Sys2Proof.Machine
end

