-- ==== Sys2Proof/Machine/LogWriter.lean ====
section
/-! DEFINITION. The log writer and the completion of page opens (chapter 7). -/

namespace Sys2Proof.Machine

/-! ## The log writer -/

/-- The words of a record (R124): two, or four when the log is stamped. -/
def Store.recordOf (t : Store) (o : Offer) : List Word :=
  let w0 := fieldAt 0 o.channel ||| flagAt 7 o.overRange ||| fieldAt 8 o.seq
  let w1 := o.value.signExtend 32
  let w2 := fieldAt 0 o.slot ||| fieldAt 16 o.frame
  if t.stamp then [w0, w1, w2, t.serial] else [w0, w1]

/-- The oldest queued record leaves the queue; an empty queue arms the drop episode (R125). -/
def Store.popQueue (t : Store) : Store :=
  { t with queue := t.queue.tail, disarmed := t.disarmed && 1 < t.queue.length }

/-- The oldest record discarded to make room (R128). -/
def Store.discardOldest (t : Store) : Store :=
  { t with head := t.placeAfter t.head 1, count := t.count - 1, overwritten := satInc t.overwritten }

/-- Steps 1 to 3 of R127: under OVERWRITE with the log full the oldest record is discarded, the words are written
at the tail place, the serial, the tail and COUNT advance. -/
def Store.writeRecord (t : Store) (o : Offer) : Store :=
  let t1 := if t.full then t.discardOldest else t
  let t2 := t1.writeWords (t1.placeAddress t1.tail) (t1.recordOf o)
  { t2 with serial := t2.serial + 1, tail := t2.placeAfter t2.tail 1, count := t2.count + 1 }

/-- The write raises LOG_WATERMARK (R127 step 4, R132). -/
def Store.crossesWatermark (before after : Store) : Bool :=
  after.watermarkLevel ≠ 0 && before.count < after.watermarkLevel && after.watermarkLevel ≤ after.count

/-- The write raises LOG_FULL (R127 step 4, R132): the log was not full before it and is now. -/
def Store.becomesFull (before after : Store) : Bool := before.count < after.capacity && after.count = after.capacity

/-- DETAIL of LOG_FULL (R132). -/
def Store.fullDetail (t : Store) : BitVec 16 :=
  BitVec.ofNat 16 t.capacity ||| ((BitVec.ofBool t.overwrite).setWidth 16 <<< 15)

/-- Step 4 of R127: LOG_WATERMARK, then LOG_FULL. -/
def State.logEvents (s : State) (before : Store) : State :=
  let s1 :=
    if before.crossesWatermark s.stl then s.raise .logWatermark (BitVec.ofNat 16 s.stl.count) else s
  if before.becomesFull s.stl then s1.raise .logFull s.stl.fullDetail else s1

/-- A record dropped at the writer (R126 case 1, R128). -/
def Store.dropAtWriter (t : Store) : Store := { t.popQueue with dropped := satInc t.dropped }

/-- The writer treats the oldest queued record (R126). -/
def State.treatRecord (s : State) (o : Offer) : State :=
  let p := s.stl.placePage s.stl.tail
  if s.stl.dropsAtWriter then { s with stl := s.stl.dropAtWriter }
  else if s.stl.pageOpen p then { s with stl := (s.stl.writeRecord o).popQueue }.logEvents s.stl
  else if (s.stl.bank (s.stl.bankOf p)).isOpening then s
  else { s with stl := s.stl.startOpen p }

/-- The writer's step of an instant has been taken. -/
def Store.stepTaken (t : Store) : Store := { t with writerDue := false }

/-- The log writer's step of an instant, when one is due: it treats the oldest queued record; none in RESET (R126). -/
def State.writerStep (s : State) : State :=
  let s1 := { s with stl := s.stl.stepTaken }
  if s.stl.writerDue && s.ctl.mode ≠ .reset then
    match s.stl.queue with
    | [] => s1
    | o :: _ => s1.treatRecord o
  else s1

/-! ## Page opens -/

/-- A page open whose units have passed completes: its bank is OPEN with the page (R119). -/
def State.completeOpen (s : State) (b : Bank) : State :=
  match s.stl.bank b with
  | .opening q 0 => { s with stl := s.stl.setBank b (.opened q) }
  | _ => s

end Sys2Proof.Machine
end

