-- ==== Sys2Proof/Machine/Judge.lean ====
section
/-! DEFINITION. The verdict of a request (R15 to R23): the fixed order of checks, the reply memory, the reply's
token and data, broadcasts, and what every verdict does. -/

namespace Sys2Proof.Machine

/-! ## Reasons and verdicts -/

/-- The reasons of a REFUSE token (R17). -/
inductive Reason where
  | badCommand
  | unnamed
  | wrongState
  | badOrder
  | badCount
  | badAddress
  | badSpan
  | readOnly
  | badEnables
  | badValue
  | badId
  | locked
  | badTable
  | testFailed
  | dataCheck
  deriving DecidableEq, Repr

/-- The reason codes (R17). -/
def Reason.code : Reason → Nat
  | .badCommand => 1
  | .unnamed => 2
  | .wrongState => 3
  | .badOrder => 4
  | .badCount => 5
  | .badAddress => 6
  | .badSpan => 7
  | .readOnly => 8
  | .badEnables => 9
  | .badValue => 10
  | .badId => 11
  | .locked => 12
  | .badTable => 13
  | .testFailed => 14
  | .dataCheck => 15

/-- The outcome of the checks of R16. `duplicate` is the ACCEPT of step 5, which executes nothing (R20). -/
inductive Verdict where
  | accept
  | duplicate
  | defer (hint : Nat)
  | refuse (why : Reason)
  deriving DecidableEq, Repr

/-! ## The header (R15) -/

/-- The request is addressed to this node (R15 step 2): the ID, the named flag and the chain-head condition are
those held at the end of the header. -/
def Ident.addressed (i : Ident) (h : Header) : Bool :=
  match h.addressing with
  | .direct => i.named && h.dest = i.nodeId
  | .broadcast => true
  | .chainHead => i.chainHead
  | .noNode => false

/-! ## Steps 4 to 8 -/

/-- The data check of the request fails (R8). -/
def Request.checkFails (r : Request) : Bool := r.hdr.command.hasBlock && dataCheck r.words ≠ r.check

/-- The five compared fields of the reply memory equal the request's (R20). -/
def ReplyMemory.recognises (m : ReplyMemory) (r : Request) : Bool :=
  m.valid && m.seq = r.hdr.seq && m.command = r.hdr.command && m.address = r.hdr.address
    && m.count = r.hdr.count && m.crc = r.check

/-- The request is a DIRECT WRITE, ORDER or SET_ID: the kind the reply memory serves (R19). -/
def Header.remembered (h : Header) : Bool := h.addressing = .direct && h.command.hasBlock

/-- The command code is unused (R5). -/
def Command.unused : Command → Bool
  | .unused5 | .unused6 | .unused7 => true
  | _ => false

/-- Chain-head addressing lets only identity reads and SET_ID through (R16 step 7). -/
def Header.chainAllowed (h : Header) : Bool :=
  (h.command = .read && h.within 0x000 0x003) || h.command = .setId

/-- The orders that need SETUP and are deferred while a stop is pending (R59). -/
def Order.needsSetup : Order → Bool
  | .startRun | .enterQuiet | .runSelftest => true
  | _ => false

/-- Step 8 in RUN (R58). -/
def State.legalInRun (s : State) (h : Header) : Option Verdict :=
  if h.command = .setId then some (.refuse .wrongState)
  else if h.order.any Order.needsSetup then
    some (if s.ctl.stop.isSome then .defer 15 else .refuse .wrongState)
  else none

/-- Step 8 in SETUP (R58). -/
def State.legalInSetup (s : State) (h : Header) : Option Verdict :=
  if h.order = some .stopRun || (h.order = some .startRun && !s.ident.named) then some (.refuse .wrongState)
  else none

/-- Step 8 in SELFTEST (R58): only READs inside 000h-03Fh pass. -/
def Header.legalInSelftest (h : Header) : Option Verdict :=
  if h.command = .read && h.within 0x000 0x03F then none else some (.defer 15)

/-- Step 8: the matrix of R58. No request is judged in RESET or QUIET (R15). -/
def State.stepLegal (s : State) (h : Header) : Option Verdict :=
  match s.ctl.mode with
  | .selftest => h.legalInSelftest
  | .setup => s.legalInSetup h
  | .run => s.legalInRun h
  | .reset => some (.refuse .wrongState)
  | .quiet => some (.refuse .wrongState)

/-! ## Steps 9 to 14 -/

/-- Step 9 (R57). -/
def Header.stepOrder (h : Header) : Option Verdict :=
  if h.command = .order && h.order.isNone then some (.refuse .badOrder) else none

/-- The largest COUNT the command allows; the smallest is 1 (R6, R133). -/
def State.maxCount (s : State) (c : Command) : Nat :=
  match c with
  | .read | .write => 64
  | .drain => if s.stl.stamp then 15 else 31
  | _ => 1

/-- Step 10 (R6, R133). -/
def State.stepCount (s : State) (h : Header) : Option Verdict :=
  if 1 ≤ h.count.toNat ∧ h.count.toNat ≤ s.maxCount h.command then none else some (.refuse .badCount)

/-- The request is a READ or WRITE: the commands whose ADDRESS names words (R6). -/
def Command.accessesWords : Command → Bool
  | .read | .write => true
  | _ => false

/-- The words covered are all assigned and lie in one region (R171). -/
def Header.inOneRegion (h : Header) : Bool :=
  (regionOf h.address.toNat).isSome
    && h.coveredWords.all (fun a => regionOf a = regionOf h.address.toNat)

/-- The first word covered lies in the store (R121). -/
def Header.toStore (h : Header) : Bool := regionOf h.address.toNat = some .store

/-- Step 11, its three checks in order (R16, R171, R172, R121). -/
def Header.stepAddress (h : Header) : Option Verdict :=
  if !h.command.accessesWords then none
  else if !h.inOneRegion then some (.refuse .badAddress)
  else if h.toStore && logicalPage h.address.toNat ≠ logicalPage h.last then some (.refuse .badSpan)
  else if h.command = .write && h.coveredWords.any readOnlyWord then some (.refuse .readOnly)
  else none

/-- Step 12 (R9): partial enables outside the store. -/
def Header.stepEnables (h : Header) : Option Verdict :=
  if h.command = .write && !h.toStore && !(h.firstEn = 0xF && h.lastEn = 0xF) then some (.refuse .badEnables)
  else none

/-- The words of a WRITE with their addresses. -/
def Request.writes (r : Request) : List (Nat × Word) :=
  r.words.zipIdx.map (fun p => (r.hdr.address.toNat + p.2, p.1))

/-- Step 13: a written field, an order's parameter or a new ID outside its range. -/
def Request.stepValue (r : Request) : Option Verdict :=
  if r.hdr.command = .write then
    if !r.hdr.toStore && r.writes.any (fun p => badValue p.1 p.2) then some (.refuse .badValue) else none
  else if r.hdr.order = some .stopRun then
    if r.param = 0 ∨ r.param = 1 then none else some (.refuse .badValue)
  else if r.hdr.command = .setId then
    if 1 ≤ r.param.toNat ∧ r.param.toNat ≤ 63 then none else some (.refuse .badId)
  else none

/-- The page of a store access lies in the log region (R121 step 14). -/
def Store.pageInLog (t : Store) (p : Nat) : Bool := t.logFirst ≤ p && p < t.logFirst + t.logPages

/-- Step 14: the target is locked by the state of its owner. -/
def State.stepLocked (s : State) (h : Header) : Option Verdict :=
  let running := s.ctl.mode = .run
  let lockedWrite :=
    match regionOf h.address.toNat with
    | some .activeWindow => decide running
    | some .stagedWindow => s.sct.commit.isSome
    | some .channelTable => decide running
    | some .registers => decide running && h.covers 0x018 0x018
    | some .store => s.stl.pageInLog (logicalPage h.address.toNat)
    | _ => false
  if h.command = .write && lockedWrite then some (.refuse .locked)
  else if h.order = some .commit && s.sct.commit.isSome then some (.refuse .locked)
  else none

/-! ## Steps 15 and 16 -/

/-- Which table a request that reaches step 15 has validated: COMMIT the STAGED one, START_RUN the ACTIVE one when
the last self-test passed (R46, R83, R87). -/
def State.validates (s : State) (h : Header) : Option Bool :=
  if h.order = some .commit then some false
  else if h.order = some .startRun && s.ctl.testPassed then some true
  else none

/-- Step 15 (R46, R87). -/
def State.stepPrecondition (s : State) (h : Header) : Option Verdict :=
  if h.order = some .startRun && !s.ctl.testPassed then some (.refuse .testFailed)
  else
    match s.validates h with
    | some ofActive => if (s.validate ofActive).result = .valid then none else some (.refuse .badTable)
    | none => none

/-- A DRAIN is a resend (R133). -/
def State.isResend (s : State) (h : Header) : Bool :=
  s.link.drain.valid && s.link.drain.seq = h.seq && s.stl.inFlight ≠ 0

/-- The head place a DRAIN looks at: the head itself for a resend, the head after retirement otherwise (R134,
R135). -/
def State.drainHead (s : State) (h : Header) : Nat :=
  if s.isResend h then s.stl.head else s.stl.placeAfter s.stl.head s.stl.inFlight

/-- The logical page a request needs open at step 16, if any: the page of a store access, and the page of the head
a DRAIN looks at unless it has nothing to return (R121, R134, R135). -/
def State.neededPage (s : State) (h : Header) : Option Nat :=
  if h.command.accessesWords then
    if h.toStore then some (logicalPage h.address.toNat) else none
  else if h.command = .drain then
    if s.isResend h then some (s.stl.placePage (s.drainHead h))
    else if !s.stl.logOn || s.stl.count - s.stl.inFlight = 0 then none
    else some (s.stl.placePage (s.drainHead h))
  else none

/-- Step 16 (R121, R134). -/
def State.stepBusy (s : State) (h : Header) : Option Verdict :=
  match s.neededPage h with
  | some p => if s.stl.pageOpen p then none else some (.defer 2)
  | none => none

/-- Steps 8 to 16, the first that applies (R16). -/
def State.laterSteps (s : State) (r : Request) : Option Verdict :=
  (s.stepLegal r.hdr).or <| r.hdr.stepOrder.or <| (s.stepCount r.hdr).or <| r.hdr.stepAddress.or <|
    r.hdr.stepEnables.or <| r.stepValue.or <| (s.stepLocked r.hdr).or <| (s.stepPrecondition r.hdr).or <|
      s.stepBusy r.hdr

/-- The verdict on a DIRECT or CHAIN_HEAD request (R16). -/
def State.verdict (s : State) (r : Request) : Verdict :=
  if r.checkFails then .refuse .dataCheck
  else if r.hdr.remembered && s.link.mem.recognises r then .duplicate
  else if r.hdr.command.unused then .refuse .badCommand
  else if r.hdr.addressing = .chainHead && !r.hdr.chainAllowed then .refuse .unnamed
  else (s.laterSteps r).getD .accept

/-! ## What a verdict does -/

/-- DETAIL of DATA_CHECK (R27). -/
def Header.checkDetail (h : Header) : BitVec 16 :=
  octets2 (h.command.code.setWidth 8) ((h.addressing.code.setWidth 4) ++ h.seq)

/-- A failed data check: DATA_ERRORS and DATA_CHECK (R16 step 4, R22 step 1). -/
def State.dataCheckFailed (s : State) (h : Header) : State :=
  { s with link := { s.link with dataErrors := satInc s.link.dataErrors } }.raise .dataCheck h.checkDetail

/-- The outcome of the validation a request at step 15 asked for, in TABLE_CHECK (R83). -/
def State.recordValidation (s : State) (h : Header) : State :=
  match s.validates h with
  | some ofActive => { s with sct := { s.sct with check := s.validate ofActive } }
  | none => s

/-- The open a deferred store access or DRAIN may start (R122, R134). -/
def State.openNeeded (s : State) (h : Header) : State :=
  match s.neededPage h with
  | some p => { s with stl := s.stl.openForDeferred p }
  | none => s

/-- The reply memory loaded from an executed DIRECT WRITE, ORDER or SET_ID (R19). -/
def State.remember (s : State) (r : Request) : State :=
  if r.hdr.remembered then
    { s with
      link := { s.link with
        mem :=
          { valid := true
            seq := r.hdr.seq
            command := r.hdr.command
            address := r.hdr.address
            count := r.hdr.count
            crc := r.check } } }
  else s

/-- What the request does to the node at its acceptance point, its reply apart; `apply` is what the command itself
does when it is executed (R16, R17). -/
def State.settle (s : State) (apply : State → State) (r : Request) (v : Verdict) : State :=
  match v with
  | .accept => (apply (s.recordValidation r.hdr)).remember r
  | .duplicate => s
  | .defer 2 => s.openNeeded r.hdr
  | .defer _ => s
  | .refuse .dataCheck => s.dataCheckFailed r.hdr
  | .refuse .badTable => s.recordValidation r.hdr
  | .refuse _ => s

/-! ## The reply -/

/-- The delays in force: LINK_CFG as held, in SELFTEST as it was held when the test began (R13, R14). -/
def State.delaysWord (s : State) : Word := if s.ctl.mode = .selftest then s.ste.savedLinkCfg else s.link.cfg

/-- The verdict codes of the token (R11). -/
def Verdict.code : Verdict → BitVec 2
  | .accept => 1
  | .duplicate => 1
  | .defer _ => 2
  | .refuse _ => 3

/-- The second token octet's low bits: reason code, retry hint, or 0 (R11). -/
def Verdict.info : Verdict → BitVec 4
  | .accept => 0
  | .duplicate => 0
  | .defer h => BitVec.ofNat 4 h
  | .refuse why => BitVec.ofNat 4 why.code

/-- The ack token (R11). -/
def ackToken (v : Verdict) (attention : Bool) (seq : BitVec 4) : List Octet :=
  [v.code ++ BitVec.ofBool attention ++ 0#1 ++ seq, 0#4 ++ v.info, Config.serial.extractLsb' 0 8]

/-- The words an accepted READ returns, as they stand at the acceptance point (R10, R174). -/
def State.readWords (s : State) (h : Header) : List Word :=
  (List.range h.count.toNat).map (fun k => s.readWord (h.address.toNat + k))

/-- The words of `n` log records from place `k` on, in ring order (R124, R136). -/
def Store.recordWords (t : Store) (k n : Nat) : List Word :=
  (List.range n).flatMap (fun i =>
    (List.range t.recordSize).map (fun j => t.readWord (t.placeAddress (t.placeAfter k i) + j)))

/-- The drain block of a DRAIN after its execution: the records in flight, from the head (R136). -/
def Store.drainBlock (t : Store) (resent : Bool) : List Word :=
  (natAt 5 0 t.inFlight ||| natAt 13 8 (t.count - t.inFlight) ||| flagAt 24 t.full ||| flagAt 25 t.overwrite
    ||| flagAt 26 t.stamp ||| flagAt 27 resent) :: t.recordWords t.head t.inFlight

/-- The read data of a reply: of an accepted READ the words of `s`, of an accepted DRAIN the drain block of `after`,
the state it leaves (R13). -/
def State.replyData (s after : State) (h : Header) (v : Verdict) : Option (List Octet) :=
  if v ≠ .accept then none
  else if h.command = .read then some (checkedOctets (s.readWords h))
  else if h.command = .drain then some (checkedOctets (after.stl.drainBlock (s.isResend h)))
  else none

/-- What an executed ENTER_QUIET or SOFT_RESET leaves for the end of its reply (R48, R51). -/
def Header.afterOf (h : Header) (v : Verdict) : AfterReply :=
  if v ≠ .accept then .nothing
  else if h.order = some .enterQuiet then .enterQuiet
  else if h.order = some .softReset then .softReset
  else .nothing

/-- The reply to a request judged in `s` that has left the node in `after` (R11 to R14): the attention flag is taken
after every effect, the delays before any. -/
def State.replyFor (s after : State) (h : Header) (v : Verdict) : Reply where
  token := ackToken v after.evu.attention h.seq
  data := s.replyData after h v
  ackDelay := ackDelayOf s.delaysWord
  readDelay := readDelayOf s.delaysWord
  command := h.command
  seq := h.seq
  after := h.afterOf v

/-- A DIRECT or CHAIN_HEAD request judged at its acceptance point: its verdict takes effect and the node is in
ACK_WAIT with the reply (R3, R16). -/
def State.judgeAddressed (s : State) (apply : State → State) (r : Request) : State :=
  let v := s.verdict r
  let after := s.settle apply r v
  after.withRx (.ackWait (s.replyFor after r.hdr v) 0)

/-! ## Broadcasts -/

/-- The request is permitted as a broadcast (R22 step 4). -/
def Header.broadcastPermitted (h : Header) : Bool :=
  match h.command with
  | .write => h.within 0x000 0x11F
  | .order => h.order ≠ some .runSelftest
  | _ => false

/-- A broadcast set aside with BROADCAST_IGNORED (R23). -/
def State.ignoreBroadcast (s : State) (cls : BitVec 8) (info : Nat) : State :=
  s.raise .broadcastIgnored (octets2 cls (BitVec.ofNat 8 info))

/-- What a broadcast does at its acceptance point (R22, R23). -/
def State.settleBroadcast (s : State) (apply : State → State) (r : Request) : State :=
  if r.checkFails then s.dataCheckFailed r.hdr
  else if s.ctl.mode = .selftest then
    { s with link := { s.link with bcastMissed := satInc s.link.bcastMissed } }
  else if r.hdr.command.unused then s.ignoreBroadcast 2 Reason.badCommand.code
  else if !r.hdr.broadcastPermitted then s.ignoreBroadcast 1 r.hdr.command.code.toNat
  else
    match s.laterSteps r with
    | none => apply (s.recordValidation r.hdr)
    | some (.refuse .badTable) => (s.recordValidation r.hdr).ignoreBroadcast 2 Reason.badTable.code
    | some (.refuse why) => s.ignoreBroadcast 2 why.code
    | some (.defer h) => s.ignoreBroadcast 3 h
    | some .accept => s
    | some .duplicate => s

/-- A request judged at its acceptance point. A broadcast gets no reply: the link interface is back in LISTEN (R3,
R22). -/
def State.judge (s : State) (apply : State → State) (r : Request) : State :=
  if r.hdr.addressing = .broadcast then (s.withRx .listen).settleBroadcast apply r
  else s.judgeAddressed apply r

/-! ## Framing -/

/-- The node frames requests in SELFTEST, SETUP and RUN only (R15, R42). -/
def Mode.frames : Mode → Bool
  | .selftest | .setup | .run => true
  | .reset | .quiet => false

/-- A request without a data block brings no words (R2). -/
def noBlock : Block := ⟨[], 0⟩

end Sys2Proof.Machine
end

