-- ==== Sys2Proof/Machine/Effects.lean ====
section
/-! DEFINITION. What an executed request does at its acceptance point, its verdict and reply apart: READ, WRITE, SET_ID,
DRAIN and the orders of R57. -/

namespace Sys2Proof.Machine

/-! ## READ, WRITE, SET_ID, DRAIN -/

/-- A READ has no effect on the node (R174). -/
def applyRead (_ : Request) (s : State) : State := s

/-- An executed WRITE: every word it covers, in ascending order (R10, R173); bytes of the store by their enables
(R9). -/
def applyWrite (r : Request) (s : State) : State :=
  if r.hdr.toStore then { s with stl := s.stl.writeStoreFrom r.hdr 0 r.words.length r.words }
  else s.writeFrom r.hdr.address.toNat r.words

/-- An executed SET_ID (R33 to R35). -/
def applySetId (r : Request) (s : State) : State :=
  { s with ident := { s.ident with nodeId := r.param.setWidth 6 } }

/-- The log after an executed DRAIN that is no resend: the in-flight records retired, and as many records in flight
as COUNT, the records present and the rest of the head's page allow (R134). -/
def Store.retireAndTake (t : Store) (most : Nat) : Store :=
  let head := t.placeAfter t.head t.inFlight
  let present := t.count - t.inFlight
  let toPageEnd := t.placesPerPage - head % t.placesPerPage
  { t with
    head := head
    count := present
    inFlight := if t.logOn then min most (min present toPageEnd) else 0 }

/-- An executed DRAIN (R134); a resend changes nothing (R135). -/
def applyDrain (r : Request) (s : State) : State :=
  if s.isResend r.hdr then s
  else
    { s with
      stl := s.stl.retireAndTake r.hdr.count.toNat
      link := { s.link with drain := { valid := true, seq := r.hdr.seq } } }

/-- A command that is never executed. -/
def applyNothing (_ : Request) (s : State) : State := s

/-! ## The orders -/

/-- The lane sequencer at an accepted START_RUN (R98). -/
def Lane.start (l : Lane) : Lane := { l.leave.clearFaults with sub := .awaitFrame }

/-- START_RUN: RUN in AWAIT_FRAME with no stop pending (R46, R98). -/
def applyStartRun (_ : Request) (s : State) : State :=
  { s with ctl := { s.ctl with mode := .run, stop := none }, lane := s.lane.start }

/-- STOP_RUN of kind NOW (R47, R111, R112): pending while a slot is in progress, otherwise at once. -/
def State.stopNow (s : State) : State :=
  if s.ctl.stop = some .now then s
  else if s.lane.sub = .walking && s.lane.inSlot then { s with ctl := { s.ctl with stop := some .now } }
  else s.leaveRun

/-- STOP_RUN of kind AT_FRAME (R47, R112): a stop already pending is kept. -/
def State.stopAtFrame (s : State) : State :=
  if s.ctl.stop.isSome then s
  else if s.lane.sub = .awaitFrame then s.leaveRun
  else { s with ctl := { s.ctl with stop := some .atFrame } }

/-- STOP_RUN (R47). -/
def applyStopRun (r : Request) (s : State) : State := if r.param = 0 then s.stopNow else s.stopAtFrame

/-- ENTER_QUIET: at once when broadcast, otherwise at the end of the reply (R48). -/
def applyEnterQuiet (r : Request) (s : State) : State :=
  if r.hdr.addressing = .broadcast then s.goQuiet else s

/-- SOFT_RESET: at once when broadcast, otherwise at the end of the reply (R51, R165). -/
def applySoftReset (r : Request) (s : State) : State :=
  if r.hdr.addressing = .broadcast then s.beginReset .soft else s

/-- RUN_SELFTEST: the drain memory, the append queue and the lane state of R116 cleared, and the test begins (R52,
R161). -/
def applyRunSelftest (_ : Request) (s : State) : State :=
  { s with
    link := { s.link with drain := { s.link.drain with valid := false } }
    stl := s.stl.emptyQueue
    lane := s.lane.leave.clearFaults }.beginSelftest

/-- The target of a COMMIT is not after the current frame number (R88). -/
def targetIsLate (target current : BitVec 16) : Bool :=
  target = current || 32768 ≤ (target - current).toNat

/-- The commit that COMMIT makes pending in RUN (R88). -/
def pendingCommit (param : Word) (current : BitVec 16) : Commit where
  targeted := param.getLsbD 16
  target := param.extractLsb' 0 16
  late := param.getLsbD 16 && targetIsLate (param.extractLsb' 0 16) current

/-- COMMIT in RUN: the commit is pending; a late one raises COMMIT_LATE (R88). -/
def State.holdCommit (s : State) (param : Word) : State :=
  let c := pendingCommit param s.lane.frame
  let s1 := { s with sct := { s.sct with commit := some c } }
  if c.late then s1.raise .commitLate c.target else s1

/-- COMMIT: in SETUP the roles are swapped at once, in RUN the commit is held (R87). -/
def applyCommit (r : Request) (s : State) : State :=
  if s.ctl.mode = .run then s.holdCommit r.param else s.swapTables .now

/-- DISCARD_STAGED ends a pending commit without a swap (R91). -/
def applyDiscardStaged (_ : Request) (s : State) : State := { s with sct := { s.sct with commit := none } }

/-- The lane sequencer at an accepted CLEAR_MUTE (R109). -/
def Lane.clearMute (l : Lane) (running : Bool) : Lane :=
  { l with fault := FaultRecord.clear, faultCount := 0, unmute := l.unmute || (running && l.muted) }

/-- CLEAR_MUTE (R109). -/
def applyClearMute (_ : Request) (s : State) : State :=
  { s with lane := s.lane.clearMute (s.ctl.mode = .run) }

/-- LOG_RESET (R138). -/
def applyLogReset (_ : Request) (s : State) : State := s.resetLog

end Sys2Proof.Machine
end

