-- ==== Sys2Proof/Machine/SelfTest.lean ====
section
/-! DEFINITION. The self-test: its phases, what a phase leaves when it ends, and the completed test (chapter 9). -/

namespace Sys2Proof.Machine

/-! ## Self-test phases -/

/-- The length of a phase in link units (R151). -/
def Phase.length : Phase → Nat
  | .idle => 0
  | .s1 => 512
  | .s2 => 4096
  | .s3 => 24576
  | .s4 => 26624
  | .s5 => 1024
  | .s6 => 256

/-- The phase after a phase; after S6 no test runs (R151, R157). -/
def Phase.following : Phase → Phase
  | .idle => .idle
  | .s1 => .s2
  | .s2 => .s3
  | .s3 => .s4
  | .s4 => .s5
  | .s5 => .s6
  | .s6 => .idle

/-- The phase's bit in SELFTEST_DETAIL (R157). -/
def Phase.failBit : Phase → BitVec 6
  | .idle => 0
  | .s1 => 1
  | .s2 => 2
  | .s3 => 4
  | .s4 => 8
  | .s5 => 16
  | .s6 => 32

/-- The addresses a phase can report: S1 the registers and records of R152, S2 table entries by role (R153), S3 and
S4 store words under LINEAR (R154), S5 latest samples (R155), S6 the references (R156). -/
def Phase.tests (p : Phase) (a : Nat) : Bool :=
  match p with
  | .idle => false
  | .s1 => [0x004, 0x00D, 0x00E, 0x010, 0x018, 0x019, 0x030, 0x031, 0x032, 0x033].contains a
      || (0x100 ≤ a && a ≤ 0x11F)
  | .s2 => 0x200 ≤ a && a ≤ 0x3FF
  | .s3 => 0x4000 ≤ a && a ≤ 0x7FFF
  | .s4 => 0x4000 ≤ a && a ≤ 0x7FFF
  | .s5 => 0x140 ≤ a && a ≤ 0x15F
  | .s6 => 0x160 ≤ a && a ≤ 0x161

/-- A word found at fault: its address and what its storage keeps. -/
abbrev FailedWord := BitVec 20 × Word

/-- The lowest address of a list of failed words; 0 when there is none (R152, R153, R155 to R157; for S3 and S4, where the
rules do not say which of several is reported: DESIGN CHOICE, log entry 27). -/
def lowestAddress : List FailedWord → Nat
  | [] => 0
  | [f] => f.1.toNat
  | f :: fs => min f.1.toNat (lowestAddress fs)

/-- The result words when a phase ends (R157): its FAIL bit when it found a failure, SELFTEST_ADDRESS at the first
phase that failed, PHASE at the next phase, whose count begins. -/
def SelfTest.endPhase (t : SelfTest) (bad : List FailedWord) : SelfTest :=
  { t with
    fails := if bad.isEmpty then t.fails else t.fails ||| t.phase.failBit
    address := if bad.isEmpty || t.fails ≠ 0 then t.address else BitVec.ofNat 16 (lowestAddress bad)
    phase := t.phase.following
    units := 0 }

/-- A register or record that failed S1 holds what its storage keeps in the bits that carry fields, with none of a
write's effects; its other bits read as 0 (R152, R174). -/
def State.hold (s : State) (f : FailedWord) : State :=
  let w := f.2 &&& storedBits f.1.toNat
  match f.1.toNat with
  | 0x004 => { s with link := { s.link with cfg := w } }
  | 0x00D => { s with lane := { s.lane with watchCfg := w } }
  | 0x00E => { s with cap := { s.cap with span := w } }
  | 0x010 => { s with cap := { s.cap with feedCfg := w } }
  | 0x018 => { s with stl := { s.stl with cfg := w } }
  | 0x019 => { s with stl := { s.stl with watermark := w } }
  | 0x030 => s.writeUser 0 w
  | 0x031 => s.writeUser 1 w
  | 0x032 => s.writeUser 2 w
  | 0x033 => s.writeUser 3 w
  | a => if 0x100 ≤ a ∧ a ≤ 0x11F then s.updateChannel (a - 0x100) (fun c => { c with record := w }) else s

/-- A table filled with the default schedule, its failed entries holding what their storage keeps; `base` is the
window the table is reported under (R94, R153). -/
def filledTable (base : Nat) (bad : List FailedWord) : Table :=
  bad.foldl
    (fun t f => if base ≤ f.1.toNat ∧ f.1.toNat < base + 256 then t.setIfInBounds (f.1.toNat - base) f.2 else t)
    defaultSchedule

/-- The tables at the end of S2 (R153): both filled, the first physical table ACTIVE, no commit pending. -/
def Tables.fill (t : Tables) (bad : List FailedWord) : Tables :=
  { t with
    first := filledTable 0x200 bad
    second := filledTable 0x300 bad
    firstActive := true
    commit := none }

/-- The store at the instant S3 begins (R154): both banks taken, the log emptied, its counts and the serial 0. -/
def Store.take (t : Store) : Store := { t.emptyLog with bank0 := .none, bank1 := .none, serial := 0 }

/-- The store at the end of S4 (R154): every bank NONE and every word 0, but for the words that failed in S3 or S4,
which hold what their storage keeps after the zero fill. -/
def Store.zero (t : Store) (bad : List FailedWord) : Store :=
  { t with
    mem := bad.foldl (fun m f => Memory.writeWord m (f.1.toNat - 0x4000) 0xF f.2) []
    bank0 := .none
    bank1 := .none }

/-- A capture channel at the end of S5 (R78, R155): all but its record as after a reset. -/
def Channel.afterTest (c : Channel) : Channel := { Channel.initial with record := c.record }

/-- The signature of a completed test (R157). -/
def SelfTest.finalSignature (t : SelfTest) : Word := if t.fails = 0 then 0x7E570A55 else 0x7E57FA11

/-- The test completes (R158): signature, TEST_PASSED, TABLE_CHECK, SELFTEST_DONE, and the node enters SETUP. -/
def State.completeTest (s : State) : State :=
  let s1 :=
    { s with
      ste := { s.ste with signature := s.ste.finalSignature }
      ctl := { s.ctl with testPassed := s.ste.fails = 0 }
      sct := { s.sct with check := TableCheck.blank } }
  let s2 := s1.raise .selftestDone (s.ste.fails.setWidth 16)
  { s2 with ctl := { s2.ctl with mode := .setup } }

/-- What the end of a phase does besides its result (R152 to R156, R158); `bad` holds the phase's failed words. -/
def State.phaseEffect (s : State) (p : Phase) (bad : List FailedWord) : State :=
  match p with
  | .idle => s
  | .s1 => bad.foldl State.hold s
  | .s2 => { s with sct := s.sct.fill bad, stl := s.stl.take }
  | .s3 => { s with ste := { s.ste with storeFaults := bad } }
  | .s4 =>
    { s with stl := s.stl.zero (s.ste.storeFaults ++ bad), ste := { s.ste with storeFaults := [] } }
  | .s5 => { s with cap := { s.cap with channels := s.cap.channels.map Channel.afterTest } }
  | .s6 => s.completeTest

/-- The running phase ends with the given failed words (R151). -/
def State.endPhase (s : State) (failed : List FailedWord) : State :=
  let bad := failed.filter (fun f => s.ste.phase.tests f.1.toNat)
  { s with ste := s.ste.endPhase bad }.phaseEffect s.ste.phase bad

/-- The running phase has taken its units (R151). -/
def SelfTest.phaseDone (t : SelfTest) : Bool := t.phase ≠ .idle && t.phase.length ≤ t.units

/-- A phase whose units have passed ends, with the given failed words (R151). -/
def State.endPhaseIfDone (s : State) (failed : List FailedWord) : State :=
  if s.ste.phaseDone then s.endPhase failed else s

end Sys2Proof.Machine
end

