-- ==== Sys2Proof/Machine/Instant.lean ====
section
/-! DEFINITION. One instant (R60, R61): the events that the node itself brings about at it, and how a command comes to
belong to it (DESIGN CHOICE, log entry 23). A place is ten times the step of R60, plus the place within the step. -/

namespace Sys2Proof.Machine

open Sys2Proof (Bank)

/-! ## The node's own events -/

/-- What an executed request without a data block does: only a DRAIN acts on the node (R10, R134). -/
def applyNoBlock (r : Request) (s : State) : State := if r.hdr.command = .drain then applyDrain r s else s

/-- A request without a data block that stands at its acceptance point is judged there, whether or not its row was
given (R2). -/
def State.judgeWaiting (s : State) : State :=
  match s.link.rx with
  | .data h _ =>
    if s.ctl.mode.frames && !h.command.hasBlock then s.judge (applyNoBlock ⟨h, [], 0⟩) ⟨h, [], 0⟩ else s
  | _ => s

/-- The node's own events of an instant that come before place `p`, in the order of R60 and R61: the log writer's step
(step 6), a request at its acceptance point (step 7), and the completions of step 8: the page opens of bank 0 and of
bank 1, the frame watch, the end of a self-test phase, in which no failure was found unless SELFTEST_PHASE_END names
one. -/
def State.takeOwn (s : State) (p : Nat) : State :=
  let s1 := if 60 < p then s.writerStep else s
  let s2 := if 70 < p then s1.judgeWaiting else s1
  let s3 := if 80 < p then s2.completeOpen .bank0 else s2
  let s4 := if 81 < p then s3.completeOpen .bank1 else s3
  let s5 := if 82 < p then s4.expireWatch else s4
  if 83 < p then s5.endPhaseIfDone [] else s5

/-! ## The instant ends, and begins -/

/-- The open instant ends: the rest of the node's own events are taken, then ALERTN takes the value that the attention
condition has after the last of them (R60, R148). -/
def State.close (s : State) : State :=
  if s.now.isSome then
    let u := s.takeOwn 90
    { u with now := none, evu := { u.evu with alertn := u.alertLow } }
  else s

/-- An event of place `p` belongs to the instant: what has been taken at it comes before. Two events of the link (place
70) may meet there. A marker and a tick never do (R60). -/
def Moment.admits (m : Moment) (p : Nat) : Bool :=
  (m.place < p || (m.place = 70 && p = 70)) && !(m.marker && p = 50)

/-- The node when an event of place `p` is taken that is no link unit: the event belongs to the open instant when that
admits it; otherwise that instant has ended and another begins. -/
def State.reach (s : State) (p : Nat) : State :=
  if s.now.any (·.admits p) then
    { s.takeOwn p with now := s.now.map (fun m => { m with place := p }) }
  else { s.close with now := some (Moment.fresh p) }

/-- A frame marker is received at the open instant. -/
def State.sawMarker (s : State) : State := { s with now := s.now.map (fun m => { m with marker := true }) }

/-- A unit whose first place is `p` can end at the instant: no unit has ended at it yet, and what has been taken at it
comes before. -/
def Moment.awaits (m : Moment) (p : Nat) : Bool := !m.unit && m.place < p

/-- The instant has reached place `p`. -/
def Moment.upTo (m : Moment) (p : Nat) : Moment := { m with place := max m.place p }

/-- A link unit ends at the instant. -/
def Moment.withUnit (m : Moment) : Moment := { m.upTo 10 with unit := true }

/-- The unit that ends at instant `m` is counted. -/
def State.endUnit (s : State) (m : Moment) : State := { s.countUnit m with now := some m.withUnit }

/-- The instant at which a link unit ends whose first place is `p`, with the unit counted: the open one when that awaits
it, otherwise an instant of its own (R1, R60). -/
def State.openUnit (s : State) (p : Nat) : State :=
  match s.now.filter (·.awaits p) with
  | some m => s.endUnit m
  | none => s.close.endUnit (Moment.fresh 10)

/-- A timed count runs. -/
def State.runs (s : State) : TimedCount → Bool
  | .opening b => (s.stl.bank b).isOpening
  | .softStep => s.ctl.softStep.isSome
  | .phase => s.ctl.mode = .selftest

/-- The instant with the timed counts `cs` begun at it. -/
def Moment.begins (m : Moment) (cs : List TimedCount) : Moment := { m with begun := m.begun ++ cs }

/-- The node after an event that led to it from `before`, with the counts that the event has begun noted at the open
instant. Only an event that can come before the unit of its instant needs this. -/
def State.noteBegun (s before : State) : State :=
  let cs := [.opening .bank0, .opening .bank1, .softStep, .phase].filter (fun c => s.runs c && !before.runs c)
  { s with now := s.now.map (·.begins cs) }

end Sys2Proof.Machine
end

