-- ==== Sys2Proof/Machine/Units.lean ====
section
/-! DEFINITION. The reception of one link unit (R1, R3, R60), and what happens while nothing is commanded: link units
pass one by one (DESIGN CHOICE, log entries 1, 3 and 4). -/

namespace Sys2Proof.Machine

open Sys2Proof (LinkUnit)

/-! ## The receive state -/

/-- A request is being received whose last unit is still to come (R2, R3). A request without a data block is complete
at the end of its header. -/
def RxState.inRequest : RxState → Bool
  | .header _ => true
  | .data h _ => h.command.hasBlock
  | _ => false

/-- The receive state after a unit that cuts nothing short (R3, R13): octets of the request, units of the reply's
waits, octets of the reply. A wait that is over leads to the octets it waited for. -/
def RxState.next : RxState → RxState
  | .listen => .listen
  | .header k => .header (k + 1)
  | .data h k => .data h (k + 1)
  | .ackWait r k => if r.ackDelay ≤ k + 1 then .token r 0 else .ackWait r (k + 1)
  | .token r k => if k + 1 < 3 then .token r (k + 1) else if r.data.isSome then .readWait r 0 else .listen
  | .readWait r k => if r.readDelay ≤ k + 1 then .readData r 0 else .readWait r (k + 1)
  | .readData r k => if k + 1 < (r.data.getD []).length then .readData r (k + 1) else .listen

/-- The reply whose last octet is the unit now received (R13). -/
def RxState.endingReply : RxState → Option Reply
  | .token r k => if r.data.isNone && 3 ≤ k + 1 then some r else none
  | .readData r k => if (r.data.getD []).length ≤ k + 1 then some r else none
  | _ => none

/-- The unit cuts a request short (R4), or abandons a reply at whose end nothing else happens (R25): what it does to the
request or the reply, it does at step 7 of R60. -/
def RxState.cutBy (rx : RxState) (u : LinkUnit) : Bool :=
  match u with
  | .octet => false
  | .idle => rx.inRequest
  | .start | .beacon =>
    rx.inRequest || (match rx.reply? with | some (r, _) => decide (r.after = .nothing) | none => false)

/-- The reply that ends with the unit: by its last octet, or abandoned by a START or BEACON (R13, R25). -/
def RxState.endedBy (rx : RxState) (u : LinkUnit) : Option Reply :=
  match u with
  | .start | .beacon => rx.reply?.map (·.1)
  | .idle | .octet => rx.endingReply

/-- The place of a unit: the first step of R60 at which it acts. Step 1: the 64th BEACON of a run (10), the end of a
reply followed by QUIET or a soft reset (10), and the end of a reset cause, which comes after RSTN going high (13). Step 2:
the end of a run (20). All else that a unit does is the link's, step 7 (70). -/
def State.unitPlace (s : State) (u : LinkUnit) : Nat :=
  if u = .beacon ∧ s.link.beacons = 63 then 10
  else if (u ≠ .beacon ∧ 64 ≤ s.link.beacons.toNat) ∨ s.ctl.softStep.any (· ≤ 1) then 13
  else if u ≠ .beacon ∧ s.link.beacons ≠ 0 then 20
  else if (s.link.rx.endedBy u).any (·.after ≠ .nothing) then 10
  else 70

/-! ## Steps 1 and 2: replies that end in a reset or QUIET, beacon runs, reset causes -/

/-- The reply that the unit ends, and what follows it (R13, R48, R165); a reply at whose end nothing else happens is
abandoned at step 7 (R25). Otherwise the waits and octets of a request or reply move on, but for a START, a BEACON and an
IDLE in a request, which act at step 7. -/
def State.replyUnit (s : State) (u : LinkUnit) : State :=
  match s.link.rx.endedBy u with
  | some r => if r.after = .nothing ∧ s.link.rx.cutBy u then s else s.endReply r
  | none =>
    if u = .start ∨ u = .beacon ∨ (u = .idle ∧ s.link.rx.inRequest) then s else s.withRx s.link.rx.next

/-- A BEACON is counted; the 64th of a run begins a link reset (R54, R55). -/
def State.countBeacon (s : State) : State :=
  let s1 := { s with link := { s.link with beacons := satInc s.link.beacons } }
  if s.link.beacons = 63 then s1.beginReset .link else s1

/-- The node when the open instant has reached place `p`. -/
def State.atPlace (s : State) (p : Nat) : State :=
  { s with now := s.now.map (·.upTo p) }

/-- The reset causes that end with the unit: a link reset, whose run a unit other than BEACON ends (R55), and a soft
reset's internal step of which it was the last unit (R163). When no cause is left, the node leaves RESET (R44). The end of a
cause is step 1, so a START that is the 16th unit of a soft reset's step is then framed in SELFTEST: DEDUCED, log
entry 25. -/
def State.endCauses (s : State) (u : LinkUnit) (mid : BitVec 4) : State :=
  let runEnds : Bool := u ≠ .beacon && 64 ≤ s.link.beacons.toNat
  let stepEnds : Bool := s.ctl.softStep = some 0
  if runEnds || stepEnds then
    ({ s with
      link := { s.link with beacons := if runEnds then 0 else s.link.beacons }
      ctl := { s.ctl with softStep := if stepEnds then none else s.ctl.softStep } }.tryLeaveReset mid).atPlace 13
  else s

/-- The end of a beacon run of fewer than 64 units, judged by its length and the operating state; the counter is then
0 (R50, R54, R56). -/
def State.endRun (s : State) : State :=
  let n := s.link.beacons.toNat
  let s1 := { s with link := { s.link with beacons := 0 } }.atPlace 20
  if s.ctl.mode = .quiet ∧ 4 ≤ n ∧ n ≤ 7 then { s1 with ctl := { s1.ctl with mode := .setup } }
  else if (s.ctl.mode = .setup ∨ s.ctl.mode = .run) ∧ 8 ≤ n then
    s1.raise .beaconStray (octets2 (BitVec.ofNat 8 s.ctl.mode.code) s.link.beacons)
  else s1

/-- What the unit does at steps 1 and 2 of R60: a reply ends, a BEACON is counted, reset causes end, and a unit other
than BEACON ends a run. -/
def State.earlySteps (s : State) (u : LinkUnit) (mid : BitVec 4) : State :=
  let s1 := s.replyUnit u
  let s2 := if u = .beacon then s1.countBeacon else s1
  let s3 := s2.endCauses u mid
  if u ≠ .beacon ∧ s3.link.beacons ≠ 0 then s3.endRun else s3

/-! ## Step 7: framing errors, abandoned replies, new requests -/

/-- A framing error: HEADER_ERRORS counts it, the request is discarded (R4). -/
def State.framingError (s : State) : State :=
  { s with link := { s.link with headerErrors := satInc s.link.headerErrors, rx := .listen } }

/-- DETAIL of REPLY_TRUNCATED (R25). -/
def Reply.truncatedDetail (r : Reply) (sent : Nat) : BitVec 16 :=
  octets2 (BitVec.ofNat 8 (min sent 255)) ((r.command.code.setWidth 4) ++ r.seq)

/-- The reply is abandoned (R25). -/
def State.abandonReply (s : State) (r : Reply) (sent : Nat) : State :=
  (s.raise .replyTruncated (r.truncatedDetail sent)).withRx .listen

/-- A unit cuts a request short (R4) or abandons a reply (R25). -/
def State.cutShort (s : State) : State :=
  match s.link.rx.reply? with
  | some (r, sent) => s.abandonReply r sent
  | none => s.framingError

/-- A START begins a new request in the states that frame requests (R3). -/
def State.beginRequest (s : State) : State := if s.ctl.mode.frames then s.withRx (.header 0) else s

/-- What a unit whose first place is `p` does at step 7 of R60 (R3, R4, R25). A START that has acted at steps 1 or 2 begins
its request at once, so that the instant stays open for events of steps 3 to 6: none of them bears on it. -/
def State.linkStep (s : State) (u : LinkUnit) (p : Nat) : State :=
  let s1 :=
    if s.link.rx.cutBy u then (s.reach 70).cutShort
    else if u = .start ∧ p = 70 then s.reach 70
    else s
  if u = .start then s1.beginRequest else s1

/-! ## A unit -/

/-- The feed lines in the middle of a message at the next unit, when no command says which: a free value, another at each
unit (R63, DESIGN CHOICE, log entry 13). -/
def State.freeMid (s : State) : BitVec 4 := Config.midMessage s.link.units

/-- A unit ends whose first place is `p`: it is counted, and its events are taken in the order of R60. -/
def State.unit (s : State) (u : LinkUnit) (mid : BitVec 4) (p : Nat) : State :=
  ((s.openUnit p).earlySteps u mid).linkStep u p

/-- A unit is received. -/
def State.receive (s : State) (u : LinkUnit) (mid : BitVec 4) : State := s.unit u mid (s.unitPlace u)

/-! ## Units that pass -/

/-- No unit passes by itself before a command brings the last octet of the header or of the data block (DESIGN CHOICE,
log entry 4). -/
def RxState.stalled : RxState → Bool
  | .header k => 7 ≤ k
  | .data h k => h.blockOctets ≤ k + 1
  | _ => false

/-- The unit that passes when nothing is commanded: an octet of the request being received, otherwise an IDLE, which
ends a beacon run (DESIGN CHOICE, log entry 4). -/
def RxState.filler (rx : RxState) : LinkUnit := if rx.inRequest then .octet else .idle

/-- The node when a unit without a command of its own is to pass: the open instant has ended when it awaits no unit, or
when a timed count has begun at it, which counts from the next instant. -/
def State.forUnit (s : State) : State := if s.now.any (fun m => m.awaits 70 && m.begun.isEmpty) then s else s.close

/-- One unit passes, at the open instant or at one of its own, unless the link stalls. -/
def State.passUnit (s : State) (mid : BitVec 4) : State :=
  let u := s.forUnit
  if u.link.rx.stalled then u else u.receive u.link.rx.filler mid

/-- Up to `n` units pass, as long as `going` holds, each with all its events; no two at one instant. -/
def State.passWhile (going : State → Bool) (mid : BitVec 4) : Nat → State → State
  | 0, s => s
  | n + 1, s => if going s then State.passWhile going mid n (s.passUnit mid) else s

/-- Exactly `n` units pass, unless the link stalls. -/
def State.passUnits (n : Nat) (s : State) : State := State.passWhile (fun _ => true) 0 n s

/-- The last octet of a header or of a data block ends, and with it the acceptance point or the end of the header is
reached (R2). -/
def State.lastOctet (s : State) : State := (s.unit .octet 0 70).reach 70

/-- No command waits: the open instant ends; when none is open, a link unit passes (R1, R169). -/
def State.idle (s : State) : State := if s.now.isSome then s.close else s.passUnit s.freeMid

end Sys2Proof.Machine
end

