-- ==== Sys2Proof/Machine/Feeds.lean ====
section
/-! DEFINITION. The meanings of the feed rows (chapter 4) and the log offer (R73, R125). -/

namespace Sys2Proof.Machine

/-! ## The log offer -/

/-- The append queue when a record is offered (R125). -/
def Store.offer (t : Store) (o : Offer) : Store :=
  if !t.logOn then t
  else if 8 ≤ t.queue.length then { t with dropped := satInc t.dropped, disarmed := true, writerDue := true }
  else { t with queue := t.queue ++ [o], writerDue := true }

/-- The offer is dropped and the drop episode is armed: APPEND_DROP is raised (R125). -/
def Store.raisesDrop (t : Store) : Bool := t.logOn && 8 ≤ t.queue.length && !t.disarmed

/-- A record is offered to the append queue (R73, R125). -/
def State.offer (s : State) (o : Offer) : State :=
  let s1 := if s.stl.raisesDrop then s.raise .appendDrop (o.channel.setWidth 16) else s
  { s1 with stl := s1.stl.offer o }

/-- SLOT of a record offered now (R124). -/
def Lane.offerSlot (l : Lane) : BitVec 16 := if l.sub = .walking then BitVec.ofNat 16 l.slotIndex else 0xFFFF

/-! ## A message -/

/-- The decimation counter after a claimed message (R71). -/
def Channel.nextDecim (c : Channel) : BitVec 4 :=
  if c.decim.toNat + 1 = c.decimation then 0 else c.decim + 1

/-- The latest sample when a message is taken (R72). -/
def Sample.take (x : Sample) (value : BitVec 20) (overRange : Bool) : Sample where
  value := value
  seq := x.seq + 1
  fresh := true
  noData := false
  overRange := overRange

/-- A channel when it claims a message (R71, R72): taken when the decimation counter is 0. -/
def Channel.claim (c : Channel) (value : BitVec 20) (overRange : Bool) : Channel :=
  if c.decim = 0 then
    { c with
      decim := c.nextDecim
      superseded := if c.sample.fresh then satInc c.superseded else c.superseded
      sample := c.sample.take value overRange }
  else { c with decim := c.nextDecim }

/-- The record offered for a message taken on channel `c` (R73, R124). -/
def State.offerFor (s : State) (c : Nat) (x : Sample) : Offer where
  channel := BitVec.ofNat 6 c
  overRange := x.overRange
  seq := x.seq
  value := x.value
  slot := s.lane.offerSlot
  frame := s.lane.frame

/-- A message claimed by channel `c` (R71 to R73): in RUN a taken message of a logged channel is offered to the
log. -/
def State.claimMessage (s : State) (c : Nat) (value : BitVec 20) (overRange : Bool) : State :=
  let old := s.cap.channel c
  let new := old.claim value overRange
  let s1 := { s with cap := s.cap.setChannel c new }
  if old.decim = 0 && s.ctl.mode = .run && old.logged then s1.offer (s1.offerFor c new.sample) else s1

/-- A message that failed parity (R66). -/
def State.parityFailed (s : State) (feed : BitVec 2) (bits : BitVec 25) : State :=
  let f := s.cap.feed feed.toNat
  { s with cap := s.cap.setFeed feed.toNat { f with parityErrors := satInc f.parityErrors } }.raise .feedParity
    (octets2 (feed.setWidth 8) ((messageIndex bits).setWidth 8))

/-- An unclaimed message (R67). -/
def State.unclaimedMessage (s : State) (feed : BitVec 2) : State :=
  let f := s.cap.feed feed.toNat
  { s with cap := s.cap.setFeed feed.toNat { f with unclaimed := satInc f.unclaimed } }

/-- The message is framed and considered (R63, R64): its receiver frames, the node is in SETUP or RUN, and the feed
is enabled. -/
def State.considers (s : State) (feed : BitVec 2) : Bool :=
  (s.cap.feed feed.toNat).rx = .framing && (s.ctl.mode = .setup || s.ctl.mode = .run) && s.cap.feedEnabled feed

/-- What the path of one message does (R63 to R73). -/
def State.takeMessage (s : State) (feed : BitVec 2) (bits : BitVec 25) : State :=
  if !s.considers feed then s
  else if parityFails bits then s.parityFailed feed bits
  else if !(s.cap.channel (messageChannel feed bits)).enabled then s.unclaimedMessage feed
  else s.claimMessage (messageChannel feed bits) (messageValue bits) (messageOver bits)

/-! ## Meanings -/

/-- FEED_MESSAGE: a message at step 4 of its instant (R60, R61). -/
def execFeedMessage (feed : BitVec 2) (bits : BitVec 25) (s : State) : Result :=
  .next ((s.reach (40 + feed.toNat)).takeMessage feed bits)

/-- FEED_RECEIVER_RESYNC: a receiver that waited for its line to be at idle frames again (R63). That it is taken at step 4
of its instant, with the messages, which R60 and R61 do not say: DESIGN CHOICE, log entry 29. -/
def execFeedReceiverResync (feed : BitVec 2) (s : State) : Result :=
  let u := s.reach (40 + feed.toNat)
  let f := u.cap.feed feed.toNat
  if f.rx = .waitIdle then .next { u with cap := u.cap.setFeed feed.toNat { f with rx := .framing } } else .next u

end Sys2Proof.Machine
end

