-- ==== Sys2Proof/Machine/LaneEvents.lean ====
section
/-! DEFINITION. The meanings of the lane rows: frame markers, slot ticks and the frame watch (chapter 6). -/

namespace Sys2Proof.Machine

/-! ## Faults -/

/-- The event of a lane fault (R106). -/
def LaneFault.event : LaneFault → EventKind
  | .none => .contentionLost
  | .contentionLost => .contentionLost
  | .scheduleShort => .scheduleShort
  | .scheduleLong => .scheduleLong

/-- DETAIL of a lane fault's event: LOST_BIT in bits 15-9, SLOT in bits 8-0 (R106). -/
def faultDetail (lostBit slot : Nat) : BitVec 16 := BitVec.ofNat 7 lostBit ++ BitVec.ofNat 9 slot

/-- The sequencer at a fault (R106 when not muted, R107 when muted). -/
def Lane.fail (l : Lane) (k : LaneFault) (lostBit slot : Nat) : Lane :=
  let record : FaultRecord := { kind := k, lostBit := lostBit, slot := slot, frame := l.frame }
  if l.muted then
    { l with
      faultCount := satInc l.faultCount
      fault := if l.fault.kind = .none then record else l.fault
      unmute := false }
  else { l with muted := true, fault := record, faultCount := 1 }

/-- A lane fault is detected (R105 to R107); only a node that was not muted raises the event. -/
def State.laneFault (s : State) (k : LaneFault) (lostBit slot : Nat) : State :=
  let s1 := { s with lane := s.lane.fail k lostBit slot }
  if s.lane.muted then s1 else s1.raise k.event (faultDetail lostBit slot)

/-! ## Frame markers -/

/-- Step 1 of R99: the number is recorded, a gap is raised when a marker was seen before (R100). -/
def State.recordMarker (s : State) (n : BitVec 16) : State :=
  let s1 := { s with lane := { s.lane with frame := n, markerSeen := true, drive := none } }
  if s.lane.markerSeen && n ≠ s.lane.frame + 1 then s1.raise .frameGap n else s1

/-- Step 2 of R99: the frame ended before the table did. -/
def State.completeness (s : State) : State :=
  if s.lane.sub = .walking ∧ s.lane.slotIndex < s.sct.active.length then
    s.laneFault .scheduleLong 0 s.lane.slotIndex
  else s

/-- A pending commit is due at the marker that carries `n` (R89). -/
def Commit.due (c : Commit) (n : BitVec 16) : Bool := !c.waitsForTarget || (n - c.target).toNat < 32768

/-- Step 4 of R99: a due commit is carried out (R89). -/
def State.commitAtMarker (s : State) (n : BitVec 16) : State :=
  match s.sct.commit with
  | some c => if c.due n then s.swapTables (if c.waitsForTarget then .target else .frame) else s
  | none => s

/-- Steps 5 and 6 of R99: a pending unmute, and the frame begins. -/
def Lane.beginFrame (l : Lane) : Lane :=
  { l with
    muted := l.muted && !l.unmute
    unmute := false
    sub := .walking
    slotIndex := 0
    inSlot := false
    shortSeen := false
    watchCount := 0
    watchExpired := false }

/-- What a frame marker does (R99): the fixed steps of a marker received in RUN; nothing in any other state (R95). -/
def State.takeMarker (s : State) (number : BitVec 16) : State :=
  if s.ctl.mode ≠ .run then s
  else if s.ctl.stop = some .now then s.leaveRun
  else
    let s2 := (s.recordMarker number).completeness
    if s.ctl.stop = some .atFrame then s2.leaveRun
    else
      let s4 := s2.commitAtMarker number
      { s4 with lane := s4.lane.beginFrame }

/-- FRAME_MARKER: a marker at step 3 of its instant (R60, R99). -/
def execFrameMarker (number : BitVec 16) (s : State) : Result := .next ((s.reach 30).sawMarker.takeMarker number)

/-! ## Slot ticks -/

/-- The position, 1 to 6 from the most significant, of the first tag bit sent as 1 and read as 0 (R102). -/
def lostBit (id others : BitVec 6) : Option Nat :=
  ((List.range 6).find? (fun i => id.getMsbD i && !others.getMsbD i)).map (· + 1)

/-- The slot word without its check bits (R103). -/
def slotWordBody (channel : Nat) (stale noData overRange reference : Bool) (seq : BitVec 8) (value : BitVec 20) :
    BitVec 40 :=
  BitVec.ofNat 6 channel ++ BitVec.ofBool stale ++ BitVec.ofBool noData ++ BitVec.ofBool overRange
    ++ BitVec.ofBool reference ++ seq ++ value ++ 0#2

/-- The slot word of a capture channel (R104). -/
def sampleSlotWord (channel : Nat) (x : Sample) : BitVec 40 :=
  if x.noData then withCheckBits (slotWordBody channel false true false false 0 0)
  else withCheckBits (slotWordBody channel (!x.fresh) false x.overRange false x.seq x.value)

/-- The slot word of a reference channel (R104). -/
def referenceSlotWord (channel : Nat) (value : BitVec 20) (frame : BitVec 16) : BitVec 40 :=
  withCheckBits (slotWordBody channel false false false true (frame.extractLsb' 0 8) value)

/-- The slot word the node forms for a channel (R104). -/
def State.slotWord (s : State) (channel : Nat) : BitVec 40 :=
  if channel < 32 then sampleSlotWord channel (s.cap.channel channel).sample
  else if channel = 32 then referenceSlotWord 32 0 s.lane.frame
  else referenceSlotWord 33 s.cap.spanValue s.lane.frame

/-- FRESH cleared by a placement; a NODATA channel has it clear already (R104). -/
def Channel.place (c : Channel) : Channel := { c with sample := { c.sample with fresh := false } }

/-- A placement clears FRESH of a capture channel and leaves the references alone (R104). -/
def Capture.place (p : Capture) (channel : Nat) : Capture :=
  if channel < 32 then p.setChannel channel (p.channel channel).place else p

/-- The slot is won: the word is placed (R102, R104). -/
def State.placeWord (s : State) (channel : Nat) : State :=
  { s with
    lane := { s.lane with drive := some ⟨6, s.ident.nodeId, some (s.slotWord channel)⟩ }
    cap := s.cap.place channel }

/-- The slot is lost at tag bit `bit`: nothing is placed, and the node has a CONTENTION_LOST fault (R102, R105). -/
def State.loseSlot (s : State) (bit : Nat) : State :=
  { s with lane := { s.lane with drive := some ⟨bit, s.ident.nodeId, none⟩ } }.laneFault .contentionLost bit
    s.lane.slotIndex

/-- A slot the node drives: the tag phase decides (R101, R102). -/
def State.driveSlot (s : State) (channel : Nat) (ltag : BitVec 6) : State :=
  match lostBit s.ident.nodeId ltag with
  | some bit => s.loseSlot bit
  | none => s.placeWord channel

/-- The walk moves on: one more tick walked, and a slot in progress (R101). -/
def Lane.walkOn (l : Lane) : Lane := { l with slotIndex := l.slotIndex + 1, inSlot := true }

/-- A tick that walks an entry (R101). -/
def State.walkEntry (s : State) (ltag : BitVec 6) : State :=
  let e := s.sct.active.entry s.lane.slotIndex
  let s1 := if entryDrive e && !s.lane.muted then s.driveSlot (entryChannel e) ltag else s
  { s1 with lane := s1.lane.walkOn }

/-- A tick the table does not have (R101): FRAME_DONE, and the first one of the frame is a SCHEDULE_SHORT fault. -/
def State.extraTick (s : State) : State :=
  let s1 := { s with lane := { s.lane with sub := .frameDone, inSlot := false, shortSeen := true } }
  if s.lane.shortSeen then s1 else s1.laneFault .scheduleShort 0 s.sct.active.length

/-- The lane at a tick before it is walked: the slot before it has ended (R96). -/
def State.releaseSlot (s : State) : State := { s with lane := { s.lane with drive := none } }

/-- What a slot tick does (R101, R111): a pending stop NOW takes place; otherwise the tick is processed by the
sub-state. -/
def State.takeTick (s : State) (ltag : BitVec 6) : State :=
  if s.ctl.mode ≠ .run then s
  else if s.ctl.stop = some .now then s.leaveRun
  else
    match s.lane.sub with
    | .none => s
    | .awaitFrame => s
    | .walking =>
      if s.lane.slotIndex < s.sct.active.length then s.releaseSlot.walkEntry ltag else s.releaseSlot.extraTick
    | .frameDone => s.releaseSlot.extraTick

/-- SLOT_TICK: a tick at step 5 of its instant (R60, R101). -/
def execSlotTick (ltag : BitVec 6) (s : State) : Result := .next ((s.reach 50).takeTick ltag)

/-! ## The frame watch -/

/-- The frame watch runs and has units to come (R114). -/
def State.watchWaits (s : State) : Bool := s.watchRuns && s.lane.watchCount < s.lane.watchLimit

/-- FRAME_WATCH_EXPIRY (R114): the rest of the limit passes, then LANE_SILENT is raised, when nothing has stopped or
re-armed the watch. At an open instant at which the count is 0 it does not occur, whether the count was set to 0 at that
instant or at an earlier one with no unit since: DESIGN CHOICE, log entry 2. With no instant open, the units pass (log
entry 3). -/
def execFrameWatchExpiry (s : State) : Result :=
  if !s.watchRuns || (s.now.isSome && s.lane.watchCount = 0) then .next s
  else .next (((s.passWhile State.watchWaits 0 (s.lane.watchLimit - s.lane.watchCount)).reach 82).expireWatch)

end Sys2Proof.Machine
end

