-- ==== Sys2Proof/Machine/LinkUnits.lean ====
section
/-! DEFINITION. The meanings of the rows of the control link: units, beacon runs, framing errors, the header, and
the reply (chapters 1 and 3). -/

namespace Sys2Proof.Machine

open Sys2Proof (LinkUnit)

/-! ## Units -/

/-- START_UNIT (R3). -/
def execStartUnit (mid : BitVec 4) (s : State) : Result := .next (s.receive .start mid)

/-- BEACON_UNIT (R54, R55). The row does not say which feed lines are in the middle of a message, should the BEACON be the
last unit of a soft reset's step: a free value (R63, log entry 13). -/
def execBeaconUnit (s : State) : Result := .next (s.receive .beacon s.freeMid)

/-- BEACON_RUN_END: the unit that ends the run is received (R54). -/
def execBeaconRunEnd (u : LinkUnit) (mid : BitVec 4) (s : State) : Result :=
  if s.link.beacons ≠ 0 ∧ u ≠ .beacon then .next (s.receive u mid) else .next s

/-- FRAMING_ERROR: the unit that cuts the request short is received (R4). -/
def execFramingError (u : LinkUnit) (s : State) : Result :=
  if s.link.rx.inRequest ∧ u ≠ .octet then .next (s.receive u 0) else .next s

/-- REPLY_TRUNCATED: the START or BEACON that abandons the reply is received (R25). -/
def execReplyTruncated (u : LinkUnit) (s : State) : Result :=
  if s.close.link.rx.reply?.isSome ∧ (u = .start ∨ u = .beacon) then .next (s.receive u 0) else .next s

/-! ## The header -/

/-- A failed header check (R7): counted, HEADER_CHECK raised, the request ignored. -/
def State.headerFailed (s : State) (computed received : BitVec 8) : State :=
  { s with link := { s.link with headerErrors := satInc s.link.headerErrors, rx := .listen } }.raise
    .headerCheck (octets2 computed received)

/-- The header judged at the end of its eighth octet (R15): checked, then followed when it is addressed to this
node. -/
def State.judgeHeader (s : State) (o : BitVec 64) : State :=
  if headerCheck o ≠ o.extractLsb' 0 8 then s.headerFailed (headerCheck o) (o.extractLsb' 0 8)
  else if s.ident.addressed (Header.parse o) then s.withRx (.data (Header.parse o) 0)
  else s.withRx .listen

/-- The node at the end of the header being received: the octets still to come have passed one by one (log entry 3), and
step 7 of the instant of the last one is reached. -/
def State.atHeaderEnd (s : State) (received : Nat) : State := (s.passUnits (7 - received)).lastOctet

/-- HEADER_RECEIVED (R15): the octets still to come pass, then the header is judged. -/
def execHeaderReceived (o : BitVec 64) (s : State) : Result :=
  match s.link.rx with
  | .header k => .next ((s.atHeaderEnd k).judgeHeader o)
  | _ => .next s

/-! ## The reply -/

/-- The units from here to the first token octet (R13). -/
def RxState.beforeToken : RxState → Nat
  | .ackWait r k => r.ackDelay - k
  | _ => 0

/-- The units from here to the first read data octet (R13). -/
def RxState.beforeReadData : RxState → Nat
  | .token r k => if r.data.isSome then 3 - k + r.readDelay else 0
  | .readWait r k => r.readDelay - k
  | _ => 0

/-- The octets from here to the end of the reply, when its last part is being sent (R13). -/
def RxState.beforeEnd : RxState → Nat
  | .token r k => if r.data.isNone then 3 - k else 0
  | .readData r k => (r.data.getD []).length - k
  | _ => 0

/-- ACK_TOKEN_SEND: the rest of ACK_DELAY passes, and the token begins (R13). -/
def execAckTokenSend (s : State) : Result :=
  let n := s.close.link.rx.beforeToken
  if n = 0 then .next s else .next (s.passUnits n)

/-- READ_DATA_SEND: the rest of the token and of READ_DELAY passes, and the read data begins (R13). -/
def execReadDataSend (s : State) : Result :=
  let n := s.close.link.rx.beforeReadData
  if n = 0 then .next s else .next (s.passUnits n)

/-- REPLY_END: the rest of the octets pass, and the reply has ended (R3, R13). -/
def execReplyEnd (s : State) : Result :=
  let n := s.close.link.rx.beforeEnd
  if n = 0 then .next s else .next (s.passUnits n)

/-- The octet being sent, with the reply and the octets sent before it (R24). -/
def RxState.sending : RxState → Option (Reply × Nat × Octet)
  | .token r k => r.token[k]?.map (fun o => (r, k, o))
  | .readData r k => (r.data.getD [])[k]?.map (fun o => (r, 3 + k, o))
  | _ => none

/-- A clash lost in the octet after `sent` octets (R24, R38): counted and raised, but not when it ends an
ENTER_QUIET or SOFT_RESET reply (R48, R165). -/
def State.loseClash (s : State) (r : Reply) (sent : Nat) : State :=
  (if r.after = .nothing then
    { s with link := { s.link with clashes := satInc s.link.clashes } }.raise .replyClash
      (octets2 (Config.serial.extractLsb' 0 8) (BitVec.ofNat 8 (min (sent + 1) 255)))
  else s).endReply r

/-- The place of the end of a reply by a clash: step 1 of R60 when QUIET or a soft reset follows, otherwise step 7 (R48,
R165). -/
def Reply.clashPlace (r : Reply) : Nat := if r.after = .nothing then 70 else 10

/-- REPLY_CLASH: the node sent a 1 and reads a 0 (R24). A bit sent as 0 cannot be lost. -/
def execReplyClash (bit : BitVec 3) (s : State) : Result :=
  match s.link.rx.sending with
  | some (r, sent, o) =>
    let u := s.reach r.clashPlace
    if o.getMsbD bit.toNat then .next ((u.loseClash r sent).noteBegun u) else .next s
  | none => .next s

end Sys2Proof.Machine
end

