-- ==== Sys2Proof/Machine/Requests.lean ====
section
/-! DEFINITION. The meanings of the READ, WRITE, SET_ID, DRAIN and unused-command rows. A WRITE is judged and
executed as one request, whatever rows its words belong to (R10, R173): each write row stands for a WRITE that
covers at least one word of the row. -/

namespace Sys2Proof.Machine

/-! ## The acceptance point -/

/-- The request whose acceptance point a request row stands for: the header being followed belongs to the row
(`belongs`), and the block has the words its COUNT states (R2). None when there is no such request. -/
def State.atAcceptance (s : State) (belongs : Header → Bool) (b : Block) : Option Request :=
  match s.link.rx with
  | .data h _ =>
    if s.ctl.mode.frames && belongs h && b.words.length = h.blockWords then some ⟨h, b.words, b.check⟩ else none
  | _ => none

/-- The octets of the request's data block still to come (R2). -/
def RxState.blockLeft : RxState → Nat
  | .data h k => h.blockOctets - k
  | _ => 0

/-- The node at the acceptance point of the request it follows (R2): the octets still to come have passed one by one
(log entry 3), and step 7 of the instant of the last one is reached. -/
def State.atPoint (s : State) : State :=
  match s.link.rx.blockLeft with
  | 0 => s.reach 70
  | n + 1 => (s.passUnits n).lastOctet

/-- A request row: the rest of the request's units pass, then the request is judged at its acceptance point. Without
such a request the event does not occur and nothing changes (DESIGN CHOICE, log entry 2). -/
def State.takeRequest (s : State) (belongs : Header → Bool) (b : Block) (apply : Request → State → State) : Result :=
  match s.atAcceptance belongs b with
  | some r => .next (s.atPoint.judge (apply r) r)
  | none => .next s

/-! ## Which requests belong to which row -/

/-- A READ of registers or windows. -/
def Header.isPlainRead (h : Header) : Bool := h.command = .read && !h.toStore

/-- A READ of the store (R121). -/
def Header.isStoreRead (h : Header) : Bool := h.command = .read && h.toStore

/-- A WRITE outside the store that covers some word of `lo` to `hi`. -/
def Header.writes (h : Header) (lo hi : Nat) : Bool := h.command = .write && !h.toStore && h.covers lo hi

/-- A WRITE that covers a register without behaviour of its own (LINK_CFG, SPAN_VALUE, FEED_CFG, LOG_WATERMARK,
EVENT_ENABLE, USER0-3). -/
def Header.coversPlain (h : Header) : Bool :=
  h.covers 0x004 0x004 || h.covers 0x00E 0x00E || h.covers 0x010 0x010 || h.covers 0x019 0x019
    || h.covers 0x021 0x021 || h.covers 0x030 0x033

/-- A WRITE that covers a word of another write row. -/
def Header.coversOther (h : Header) : Bool :=
  h.covers 0x005 0x005 || h.covers 0x00D 0x00D || h.covers 0x011 0x014 || h.covers 0x018 0x018
    || h.covers 0x01B 0x01B || h.covers 0x022 0x023 || h.covers 0x100 0x11F || h.covers 0x180 0x19F
    || h.covers 0x200 0x3FF

/-- A WRITE of the row REGISTER_WRITE: one that covers a plain register, or that covers no word of any other write
row (such a WRITE touches only unassigned or read-only words). -/
def Header.isRegisterWrite (h : Header) : Bool :=
  h.command = .write && !h.toStore && (h.coversPlain || !h.coversOther)

/-- A WRITE of the store (R121). -/
def Header.isStoreWrite (h : Header) : Bool := h.command = .write && h.toStore

/-- A WRITE that covers EVENT_RETIRE with CLEAR_LOST set in the word sent to it (R144, R145). -/
def Header.isClearLost (words : List Word) (h : Header) : Bool :=
  h.writes 0x023 0x023 && (words.getD (0x023 - h.address.toNat) 0).getLsbD 8

/-! ## Meanings -/

/-- READ (R10, R174). -/
def execRead (s : State) : Result := s.takeRequest Header.isPlainRead noBlock applyRead

/-- STORE_READ (R121, R122). -/
def execStoreRead (s : State) : Result := s.takeRequest Header.isStoreRead noBlock applyRead

/-- REGISTER_WRITE (R172). -/
def execRegisterWrite (b : Block) (s : State) : Result := s.takeRequest Header.isRegisterWrite b applyWrite

/-- LINK_STATUS_CLEAR (R26). -/
def execLinkStatusClear (b : Block) (s : State) : Result := s.takeRequest (·.writes 0x005 0x005) b applyWrite

/-- FEED_STATUS_CLEAR (R68). -/
def execFeedStatusClear (b : Block) (s : State) : Result := s.takeRequest (·.writes 0x011 0x014) b applyWrite

/-- CHANNEL_RECORD_WRITE (R69, R70). -/
def execChannelRecordWrite (b : Block) (s : State) : Result := s.takeRequest (·.writes 0x100 0x11F) b applyWrite

/-- SUPERSEDE_CLEAR (R76). -/
def execSupersedeClear (b : Block) (s : State) : Result := s.takeRequest (·.writes 0x180 0x19F) b applyWrite

/-- ACTIVE_TABLE_WRITE (R85). -/
def execActiveTableWrite (b : Block) (s : State) : Result := s.takeRequest (·.writes 0x200 0x2FF) b applyWrite

/-- STAGED_TABLE_WRITE (R86). -/
def execStagedTableWrite (b : Block) (s : State) : Result := s.takeRequest (·.writes 0x300 0x3FF) b applyWrite

/-- FRAME_WATCH_WRITE (R114). -/
def execFrameWatchWrite (b : Block) (s : State) : Result := s.takeRequest (·.writes 0x00D 0x00D) b applyWrite

/-- STORE_CFG_WRITE (R118). -/
def execStoreCfgWrite (b : Block) (s : State) : Result := s.takeRequest (·.writes 0x018 0x018) b applyWrite

/-- STORE_WRITE (R121, R122). -/
def execStoreWrite (b : Block) (s : State) : Result := s.takeRequest Header.isStoreWrite b applyWrite

/-- LOG_LOSS_CLEAR (R131). -/
def execLogLossClear (b : Block) (s : State) : Result := s.takeRequest (·.writes 0x01B 0x01B) b applyWrite

/-- EVENT_RETIRE (R144). -/
def execEventRetire (b : Block) (s : State) : Result := s.takeRequest (·.writes 0x023 0x023) b applyWrite

/-- CLEAR_LOST (R145). -/
def execClearLost (b : Block) (s : State) : Result := s.takeRequest (Header.isClearLost b.words) b applyWrite

/-- ALERT_ENABLE_WRITE (R147). -/
def execAlertEnableWrite (b : Block) (s : State) : Result := s.takeRequest (·.writes 0x022 0x022) b applyWrite

/-- SET_ID (R33). -/
def execSetId (b : Block) (s : State) : Result := s.takeRequest (·.command = .setId) b applySetId

/-- DRAIN (R133). -/
def execDrain (s : State) : Result := s.takeRequest (·.command = .drain) noBlock applyDrain

/-- UNUSED_COMMAND (R16 step 6). -/
def execUnusedCommand (s : State) : Result := s.takeRequest (·.command.unused) noBlock applyNothing

end Sys2Proof.Machine
end

