-- ==== Sys2Proof/Machine/Orders.lean ====
section
/-! DEFINITION. The meanings of the order rows (R57). -/

namespace Sys2Proof.Machine

/-- UNKNOWN_ORDER (R57): never executed. -/
def execUnknownOrder (b : Block) (s : State) : Result :=
  s.takeRequest (fun h => h.command = .order && h.order.isNone) b applyNothing

/-- START_RUN (R46). -/
def execStartRun (b : Block) (s : State) : Result := s.takeRequest (·.order = some .startRun) b applyStartRun

/-- STOP_RUN (R47). -/
def execStopRun (b : Block) (s : State) : Result := s.takeRequest (·.order = some .stopRun) b applyStopRun

/-- ENTER_QUIET (R48). -/
def execEnterQuiet (b : Block) (s : State) : Result := s.takeRequest (·.order = some .enterQuiet) b applyEnterQuiet

/-- SOFT_RESET (R51). -/
def execSoftReset (b : Block) (s : State) : Result := s.takeRequest (·.order = some .softReset) b applySoftReset

/-- RUN_SELFTEST (R52). -/
def execRunSelftest (b : Block) (s : State) : Result :=
  s.takeRequest (·.order = some .runSelftest) b applyRunSelftest

/-- COMMIT (R87). -/
def execCommit (b : Block) (s : State) : Result := s.takeRequest (·.order = some .commit) b applyCommit

/-- DISCARD_STAGED (R91). -/
def execDiscardStaged (b : Block) (s : State) : Result :=
  s.takeRequest (·.order = some .discardStaged) b applyDiscardStaged

/-- CLEAR_MUTE (R109). -/
def execClearMute (b : Block) (s : State) : Result := s.takeRequest (·.order = some .clearMute) b applyClearMute

/-- LOG_RESET (R138). -/
def execLogReset (b : Block) (s : State) : Result := s.takeRequest (·.order = some .logReset) b applyLogReset

end Sys2Proof.Machine
end

