-- ==== Sys2Proof/Machine/Resets.lean ====
section
/-! DEFINITION. The meanings of the reset, self-test and chain rows (chapters 2, 3, 9, 10). -/

namespace Sys2Proof.Machine

/-- Phase `p` of the self-test runs and has units to come (R151). -/
def State.phaseRuns (p : Phase) (s : State) : Bool := s.ste.phase = p && !s.ste.phaseDone

/-- SELFTEST_PHASE_END: the rest of the running phase's units pass, then the phase ends with the given failures
(R151 to R157). -/
def execSelftestPhaseEnd (failed : List FailedWord) (s : State) : Result :=
  if s.ste.phase = .idle then .next s
  else
    .next (((s.passWhile (State.phaseRuns s.ste.phase) 0 (s.ste.phase.length - s.ste.units)).reach 83).endPhaseIfDone
      failed)

/-- RSTN goes low, or power is applied (R43, R163, R164). When power is applied the beacon counter is 0 (R54) and no
soft reset's step runs. With RSTN low already and no power applied, a further pin reset begins and RESET_CAUSE is POWER_PIN
again: DESIGN CHOICE, log entry 31. -/
def State.pinReset (s : State) (power : Bool) : State :=
  { s with
    ctl := { s.ctl with rstnLow := true, softStep := if power then none else s.ctl.softStep }
    link := { s.link with beacons := if power then 0 else s.link.beacons } }.beginReset .powerPin

/-- PIN_RESET (R43). -/
def execPinReset (power : Bool) (s : State) : Result := .next ((s.reach 11).pinReset power)

/-- RSTN goes high; the node leaves RESET unless another cause holds (R44). -/
def State.pinRelease (s : State) (mid : BitVec 4) : State :=
  if s.ctl.rstnLow then { s with ctl := { s.ctl with rstnLow := false } }.tryLeaveReset mid else s

/-- PIN_RESET_RELEASE (R44). -/
def execPinResetRelease (mid : BitVec 4) (s : State) : Result :=
  let u := s.reach 12
  .next ((u.pinRelease mid).noteBegun u)

/-- SOFT_RESET_STEP_DONE (R163): the rest of the 16 units pass; the last one ends the soft reset's cause. -/
def execSoftResetStepDone (mid : BitVec 4) (s : State) : Result :=
  match s.ctl.softStep with
  | some n => .next (s.passWhile (·.ctl.softStep.isSome) mid n)
  | none => .next s

/-- CHI_CHANGE (R31): the CHI input takes a level; CHO, computed from it, follows at once. -/
def execChiChange (level : Bool) (s : State) : Result :=
  let u := s.reach 0
  .next { u with ident := { u.ident with chi := level } }

end Sys2Proof.Machine
end

