-- ==== Sys2Proof/Machine/StoreEvents.lean ====
section
/-! DEFINITION. The meanings of the store and log rows: page opens and the log writer (chapter 7). -/

namespace Sys2Proof.Machine

open Sys2Proof (Bank)

/-- LOG_WRITER_STEP (R126): the step that is due at the open instant, since a unit has ended or a record was offered at
it. When none is due there is no step (log entry 20). None in RESET. -/
def execLogWriterStep (s : State) : Result :=
  let u := s.reach 60
  if s.ctl.mode ≠ .reset && s.stl.writerDue then .next (u.writerStep.noteBegun u) else .next s

/-- A page open of bank `b` has units to come (R119). -/
def State.openWaits (b : Bank) (s : State) : Bool :=
  match s.stl.bank b with
  | .opening _ (_ + 1) => true
  | _ => false

/-- PAGE_OPEN_DONE (R119): the rest of the open's units pass and the bank is OPEN with the page. -/
def execPageOpenDone (b : Bank) (s : State) : Result :=
  match s.stl.bank b with
  | .opening _ n => .next (((s.passWhile (State.openWaits b) 0 n).reach (80 + bankNumber b)).completeOpen b)
  | _ => .next s

end Sys2Proof.Machine
end

