-- ==== Sys2Proof/Machine/Dispatch.lean ====
section
/-! DEFINITION. exec: one arm for each command, in the order of spec/opcode_table.json. -/

namespace Sys2Proof.Machine

open Sys2Proof (Instr)

-- The effect of a command on everything but the queue.
def exec (i : Instr) (s : State) : Host.Outcome State Fault Refusal :=
  match i with
  | .startUnit mid => Sys2Proof.Machine.execStartUnit mid s
  | .beaconUnit => Sys2Proof.Machine.execBeaconUnit s
  | .beaconRunEnd u mid => Sys2Proof.Machine.execBeaconRunEnd u mid s
  | .framingError u => Sys2Proof.Machine.execFramingError u s
  | .headerReceived octets => Sys2Proof.Machine.execHeaderReceived octets s
  | .read => Sys2Proof.Machine.execRead s
  | .storeRead => Sys2Proof.Machine.execStoreRead s
  | .registerWrite b => Sys2Proof.Machine.execRegisterWrite b s
  | .linkStatusClear b => Sys2Proof.Machine.execLinkStatusClear b s
  | .feedStatusClear b => Sys2Proof.Machine.execFeedStatusClear b s
  | .channelRecordWrite b => Sys2Proof.Machine.execChannelRecordWrite b s
  | .supersedeClear b => Sys2Proof.Machine.execSupersedeClear b s
  | .activeTableWrite b => Sys2Proof.Machine.execActiveTableWrite b s
  | .stagedTableWrite b => Sys2Proof.Machine.execStagedTableWrite b s
  | .frameWatchWrite b => Sys2Proof.Machine.execFrameWatchWrite b s
  | .storeCfgWrite b => Sys2Proof.Machine.execStoreCfgWrite b s
  | .storeWrite b => Sys2Proof.Machine.execStoreWrite b s
  | .logLossClear b => Sys2Proof.Machine.execLogLossClear b s
  | .eventRetire b => Sys2Proof.Machine.execEventRetire b s
  | .clearLost b => Sys2Proof.Machine.execClearLost b s
  | .alertEnableWrite b => Sys2Proof.Machine.execAlertEnableWrite b s
  | .setId b => Sys2Proof.Machine.execSetId b s
  | .drain => Sys2Proof.Machine.execDrain s
  | .unusedCommand => Sys2Proof.Machine.execUnusedCommand s
  | .unknownOrder b => Sys2Proof.Machine.execUnknownOrder b s
  | .startRun b => Sys2Proof.Machine.execStartRun b s
  | .stopRun b => Sys2Proof.Machine.execStopRun b s
  | .enterQuiet b => Sys2Proof.Machine.execEnterQuiet b s
  | .softReset b => Sys2Proof.Machine.execSoftReset b s
  | .runSelftest b => Sys2Proof.Machine.execRunSelftest b s
  | .commit b => Sys2Proof.Machine.execCommit b s
  | .discardStaged b => Sys2Proof.Machine.execDiscardStaged b s
  | .clearMute b => Sys2Proof.Machine.execClearMute b s
  | .logReset b => Sys2Proof.Machine.execLogReset b s
  | .ackTokenSend => Sys2Proof.Machine.execAckTokenSend s
  | .readDataSend => Sys2Proof.Machine.execReadDataSend s
  | .replyEnd => Sys2Proof.Machine.execReplyEnd s
  | .replyClash bit => Sys2Proof.Machine.execReplyClash bit s
  | .replyTruncated u => Sys2Proof.Machine.execReplyTruncated u s
  | .pinReset power => Sys2Proof.Machine.execPinReset power s
  | .pinResetRelease mid => Sys2Proof.Machine.execPinResetRelease mid s
  | .softResetStepDone mid => Sys2Proof.Machine.execSoftResetStepDone mid s
  | .selftestPhaseEnd failed => Sys2Proof.Machine.execSelftestPhaseEnd failed s
  | .chiChange level => Sys2Proof.Machine.execChiChange level s
  | .feedMessage feed bits => Sys2Proof.Machine.execFeedMessage feed bits s
  | .frameMarker number => Sys2Proof.Machine.execFrameMarker number s
  | .slotTick ltag => Sys2Proof.Machine.execSlotTick ltag s
  | .frameWatchExpiry => Sys2Proof.Machine.execFrameWatchExpiry s
  | .pageOpenDone bank => Sys2Proof.Machine.execPageOpenDone bank s
  | .logWriterStep => Sys2Proof.Machine.execLogWriterStep s
  | .feedReceiverResync feed => Sys2Proof.Machine.execFeedReceiverResync feed s

end Sys2Proof.Machine
end

