-- ==== Sys2Proof/Machine/Step.lean ====
section
/-! DEFINITION. One step: the command at the front of the queue, or what happens while none waits. -/

namespace Sys2Proof.Machine

open Sys2Proof (Instr decodeTableWord)

/-- One step. A command at the front of the queue is executed with the rest of the queue; on an empty queue the node
goes on by itself (`State.idle`). -/
def step (s : State) : Host.Outcome State Fault Refusal :=
  match s.pending with
  | c :: rest => exec c { s with pending := rest }
  | [] => .next s.idle

/-- The state with the command that a word spells put at the front of its queue; no word spells one, since no row
of the table has bits. -/
def State.withFetchWord (s : State) (nbits w : Nat) : State :=
  match decodeTableWord nbits w with
  | some c => { s with pending := c :: s.pending }
  | none => s

end Sys2Proof.Machine
end

