-- ==== Sys2Proof/Machine/Arrival.lean ====
section
/-! DEFINITION. The order in which the commands of one instant reach the queue (R60, R61; DEDUCED, log entry 5; for the
commands that R60 does not list DESIGN CHOICE, log entry 29). -/

namespace Sys2Proof.Machine

open Sys2Proof (Instr LinkUnit)

/-- The place of the clash that the octet being sent may lose (R24, R48, R165). -/
def State.clashPlace (s : State) : Nat :=
  match s.link.rx.reply? with
  | some (r, _) => r.clashPlace
  | none => 70

/-- The place of a command among the events of one instant: ten times its step of R60, plus its place within the
step (R61). A change of CHI comes before step 1; a pin reset comes after the 64th beacon, so that RESET_CAUSE
records POWER_PIN (R61). The end of a SOFT_RESET reply (10) comes before a pin reset (11), so the soft reset's step
runs on under the pin reset: DESIGN CHOICE, log entry 24. Step 4 for a receiver that frames again, and step 1 for the
commands that let units of a reply pass: DESIGN CHOICE, log entry 29. -/
def State.place (s : State) : Instr → Nat
  | .chiChange _ => 0
  | .startUnit _ => s.unitPlace .start
  | .beaconUnit => s.unitPlace .beacon
  | .beaconRunEnd u _ => s.unitPlace u
  | .framingError u => s.unitPlace u
  | .replyTruncated u => s.unitPlace u
  | .pinReset _ => 11
  | .pinResetRelease _ => 12
  | .softResetStepDone _ => 13
  | .frameMarker _ => 30
  | .feedReceiverResync f => 40 + f.toNat
  | .feedMessage f _ => 40 + f.toNat
  | .slotTick _ => 50
  | .logWriterStep => 60
  | .ackTokenSend => 10
  | .readDataSend => 10
  | .replyEnd => 10
  | .replyClash _ => s.clashPlace
  | .pageOpenDone b => 80 + bankNumber b
  | .frameWatchExpiry => 82
  | .selftestPhaseEnd _ => 83
  | .headerReceived _ => 70
  | .read => 70
  | .storeRead => 70
  | .registerWrite _ => 70
  | .linkStatusClear _ => 70
  | .feedStatusClear _ => 70
  | .channelRecordWrite _ => 70
  | .supersedeClear _ => 70
  | .activeTableWrite _ => 70
  | .stagedTableWrite _ => 70
  | .frameWatchWrite _ => 70
  | .storeCfgWrite _ => 70
  | .storeWrite _ => 70
  | .logLossClear _ => 70
  | .eventRetire _ => 70
  | .clearLost _ => 70
  | .alertEnableWrite _ => 70
  | .setId _ => 70
  | .drain => 70
  | .unusedCommand => 70
  | .unknownOrder _ => 70
  | .startRun _ => 70
  | .stopRun _ => 70
  | .enterQuiet _ => 70
  | .softReset _ => 70
  | .runSelftest _ => 70
  | .commit _ => 70
  | .discardStaged _ => 70
  | .clearMute _ => 70
  | .logReset _ => 70

/-- A command put into a list of one instant's events, before the first that does not precede it. -/
def State.insertEvent (s : State) (c : Instr) : List Instr → List Instr
  | [] => [c]
  | d :: ds => if s.place c ≤ s.place d then c :: d :: ds else d :: s.insertEvent c ds

/-- The events of one instant in the order in which the node takes them (R60, R61); events of one place keep the
order in which they are given. -/
def State.inOrder (s : State) : List Instr → List Instr
  | [] => []
  | c :: cs => s.insertEvent c (s.inOrder cs)

/-- Commands that arrive at one instant join the queue in the order of R60. The node's own events of that instant are
taken between them (`State.reach`, `State.close`). Their places are those in the state at their arrival, whatever still
waits before them: DESIGN CHOICE, log entry 30. -/
def State.arrive (s : State) (cs : List Instr) : State := { s with pending := s.pending ++ s.inOrder cs }

end Sys2Proof.Machine
end

