-- ==== Sys2Proof/Safety.lean ====
section
/-! DEFINITION. What holds of a node in every state it can reach (the invariants of chapters 3 to 10), and the words
in which the statements speak of a request at its acceptance point. -/

namespace Sys2Proof.Machine

open Sys2Proof (Instr LinkUnit)

/-! ## Invariants -/

/-- The store's bytes are in their canonical form. -/
def State.StoreCanonical (s : State) : Prop := s.stl.mem.wf = true

/-- At most 16 records, and they carry consecutive serials that end just before EVSERIAL (R141). -/
def Events.Consistent (e : Events) : Prop :=
  e.queue.length ≤ 16 ∧
    ∀ k, (h : k < e.queue.length) →
      e.queue[k].serial = e.serial - BitVec.ofNat 8 e.queue.length + BitVec.ofNat 8 k

/-- At most eight records wait in the append queue (R125). -/
def Store.QueueFits (t : Store) : Prop := t.queue.length ≤ 8

/-- No capture channel is FRESH and NODATA at once (R74). -/
def Capture.SamplesConsistent (c : Capture) : Prop :=
  ∀ k < 32, ¬((c.channel k).sample.fresh = true ∧ (c.channel k).sample.noData = true)

/-- The walk state outside RUN (R97, R113), with nothing driven (R96). -/
def Lane.AtRest (l : Lane) : Prop :=
  l.sub = .none ∧ l.slotIndex = 0 ∧ l.inSlot = false ∧ l.markerSeen = false ∧ l.shortSeen = false
    ∧ l.unmute = false ∧ l.watchCount = 0 ∧ l.watchExpired = false ∧ l.drive = none

/-- The event queue, the append queue and the banks in RESET (R166, R167). -/
def State.HeldEmpty (s : State) : Prop :=
  s.evu.queue = [] ∧ s.evu.lost = 0 ∧ s.stl.queue = [] ∧ s.stl.bank0 = .none ∧ s.stl.bank1 = .none

/-- A reply that ends in QUIET or in a soft reset is owed only in the states in which its order is legal (R48,
R51). -/
def State.EndingLegal (s : State) : Prop :=
  match s.link.rx.reply? with
  | some (r, _) =>
    match r.after with
    | .nothing => True
    | .enterQuiet => s.ctl.mode = .setup
    | .softReset => s.ctl.mode = .setup ∨ s.ctl.mode = .run
  | none => True

/-- The operating state agrees with every block (R42 to R52). -/
structure State.ModesConsistent (s : State) : Prop where
  /-- In RESET and QUIET the link interface stays in LISTEN (R3). -/
  listening : s.ctl.mode = .reset ∨ s.ctl.mode = .quiet → s.link.rx = .listen
  /-- The node is in RESET exactly while a reset cause holds (R43, R44). -/
  held : s.ctl.mode = .reset ↔ s.resetHeld = true
  /-- While RSTN is low, and while a link reset holds, the node is unnamed (R29, R31). -/
  unnamed : s.ctl.rstnLow = true ∨ 64 ≤ s.link.beacons.toNat → s.ident.nodeId = 0
  /-- In RESET no event and no record is queued, and no page is open (R167). -/
  empty : s.ctl.mode = .reset → s.HeldEmpty
  /-- A self-test phase runs exactly in SELFTEST (R45, R151, R157). -/
  testing : s.ste.phase ≠ .idle ↔ s.ctl.mode = .selftest
  /-- A reply that ends in QUIET or in RESET is owed in SETUP (or RUN) only (R48, R51). -/
  ending : s.EndingLegal
  /-- Outside RUN nothing is walked and no stop or commit is pending (R92, R97, R113). -/
  atRest : s.ctl.mode ≠ .run → s.lane.AtRest ∧ s.ctl.stop = none ∧ s.sct.commit = none
  /-- A node in RUN is named, has passed its last test and is in a run sub-state (R46). -/
  running : s.ctl.mode = .run → s.ident.named = true ∧ s.ctl.testPassed = true ∧ s.lane.sub ≠ .none

/-- In RUN the ACTIVE table stays valid, the walk stays inside it, and a table whose commit is pending is valid
(R85, R97). -/
def State.RunTablesValid (s : State) : Prop :=
  s.ctl.mode = .run →
    (s.validate true).result = .valid ∧ s.lane.slotIndex ≤ s.sct.active.length ∧
      (s.sct.commit.isSome = true → (s.validate false).result = .valid)

/-- The ring of R123: all 0 when the log is off; otherwise head and tail are places, the records present fit, the
in-flight records are among them, and the tail follows the last of them. -/
def Store.RingConsistent (t : Store) : Prop :=
  if t.capacity = 0 then t.head = 0 ∧ t.tail = 0 ∧ t.count = 0 ∧ t.inFlight = 0
  else t.head < t.capacity ∧ t.count ≤ t.capacity ∧ t.inFlight ≤ t.count ∧ t.inFlight ≤ 31 ∧
    t.tail = t.placeAfter t.head t.count

/-- The log is consistent (R123, R125): the ring is, but for phase S2, when a STORE_CFG that failed S1 may be held
over a log not yet emptied (R152, R154); no record is queued in SELFTEST or while the log is off. -/
def State.LogConsistent (s : State) : Prop :=
  (s.ste.phase ≠ .s2 → s.stl.RingConsistent) ∧ (s.ctl.mode = .selftest → s.stl.queue = []) ∧
    (s.stl.queue ≠ [] → s.stl.logOn = true)

/-- Every bit that carries no field is 0 in each writable register and channel record (R172, R174). -/
structure State.FieldsOnly (s : State) : Prop where
  /-- LINK_CFG and FRAME_WATCH: bits 31 to 8 (R14, R114). -/
  bytes : s.link.cfg.extractLsb' 8 24 = 0 ∧ s.lane.watchCfg.extractLsb' 8 24 = 0
  /-- SPAN_VALUE and FEED_CFG (R65, R162). -/
  capture : s.cap.span.extractLsb' 20 12 = 0 ∧ s.cap.feedCfg.extractLsb' 4 28 = 0
  /-- STORE_CFG and LOG_WATERMARK (R118, R131). -/
  log : s.stl.cfg.extractLsb' 3 5 = 0 ∧ s.stl.cfg.getLsbD 15 = false ∧ s.stl.cfg.extractLsb' 24 8 = 0 ∧
    s.stl.watermark.extractLsb' 14 18 = 0
  /-- EVENT_ENABLE and ALERT_ENABLE (R147). -/
  enables : s.evu.enable.getLsbD 0 = false ∧ s.evu.enable.extractLsb' 19 13 = 0 ∧
    s.evu.alert.extractLsb' 19 13 = 0
  /-- The channel records (R69). -/
  records : ∀ c < 32,
    (s.cap.channel c).record.extractLsb' 2 6 = 0 ∧ (s.cap.channel c).record.extractLsb' 13 19 = 0

/-! ## After a reset -/

/-- What a reset of kind `k` leaves, row by row of Table 10-1, in the node `t` that was `s` when it began. -/
structure State.ResetTo (k : ResetCause) (s t : State) : Prop where
  /-- RESET, with the cause recorded and no stop pending (R43, R164, R166). -/
  mode : t.ctl.mode = .reset ∧ t.ctl.resetCause = k ∧ t.ctl.stop = none
  /-- NODE_ID, and the CHI level that no reset changes (R29, R40). -/
  ident : t.ident.nodeId = (if k = .soft then s.ident.nodeId else 0) ∧ t.ident.chi = s.ident.chi
  /-- LISTEN, LINK_CFG, the link counters and both memories (R21, R27, R139). -/
  link : t.link.rx = .listen ∧ t.link.cfg = (if k = .soft then s.link.cfg else 0x00000024) ∧
    t.link.headerErrors = 0 ∧ t.link.dataErrors = 0 ∧ t.link.clashes = 0 ∧ t.link.bcastMissed = 0 ∧
    t.link.mem.valid = false ∧ t.link.drain.valid = false
  /-- FEED_CFG, SPAN_VALUE, the feed counters and receivers (R63, R65, R68, R162). -/
  feeds : t.cap.feedCfg = 0x0000000F ∧ t.cap.span = 0x00040000 ∧
    ∀ f < 4, (t.cap.feed f).rx = .held ∧ (t.cap.feed f).parityErrors = 0 ∧ (t.cap.feed f).unclaimed = 0
  /-- Channel records, decimation counters, latest samples and supersede counts (R78). -/
  channels : ∀ c < 32, (t.cap.channel c).record = 0x00000101 ∧ (t.cap.channel c).decim = 0 ∧
    (t.cap.channel c).sample =
      { value := 0, seq := 0, fresh := false, noData := true, overRange := false } ∧
    (t.cap.channel c).superseded = 0
  /-- No commit is pending, TABLE_CHECK reads 0, no role changes (R83, R92). -/
  tables : t.sct.commit = none ∧ t.sct.check.word = 0 ∧ t.sct.active = s.sct.active ∧
    t.sct.staged = s.sct.staged
  /-- The lane sequencer (R116), its lines released (R96). -/
  lane : t.lane.AtRest ∧ t.lane.frame = 0 ∧ t.lane.muted = false ∧ t.lane.faultWord = 0 ∧
    t.lane.fault.frame = 0 ∧ t.lane.watchCfg = 0
  /-- The log, the append queue and the banks; the store words stand (R139). -/
  store : t.stl.cfg = 0 ∧ t.stl.watermark = 0 ∧ t.stl.head = 0 ∧ t.stl.tail = 0 ∧ t.stl.count = 0 ∧
    t.stl.inFlight = 0 ∧ t.stl.dropped = 0 ∧ t.stl.overwritten = 0 ∧ t.stl.serial = 0 ∧ t.stl.queue = [] ∧
    t.stl.disarmed = false ∧ t.stl.bank0 = .none ∧ t.stl.bank1 = .none ∧ t.stl.mem = s.stl.mem
  /-- The event unit (R150), ALERTN released (R149). -/
  events : t.evu.queue = [] ∧ t.evu.lost = 0 ∧ t.evu.serial = 0 ∧ t.evu.alertn = false ∧
    t.evu.enable = (if k = .soft then s.evu.enable else 0x0007FF7A) ∧
    t.evu.alert = (if k = .soft then s.evu.alert else 0)
  /-- A running test is abandoned, no FAIL bit set for its phase (R160). -/
  test : t.ste.phase = .idle ∧ t.ste.fails = s.ste.fails
  /-- USER0 to USER3 (R170). -/
  user : t.user = if k = .soft then s.user else Vector.replicate 4 0
  /-- The commands that wait are no part of the node. -/
  pending : t.pending = s.pending

/-! ## The end of RESET -/

/-- The capture port `after` is `c` with its receivers released: a receiver whose line is in the middle of a message
waits for idle, every other one frames (R63). -/
def Capture.Released (c after : Capture) (mid : BitVec 4) : Prop :=
  after = { c with feeds := after.feeds } ∧
    ∀ f < 4, after.feed f = { c.feed f with rx := if mid.getLsbD f = true then .waitIdle else .framing }

/-- The node `u` in SELFTEST, with a test begun at S1 and the capture port `cap` (R44, R151). -/
def State.testBegun (u : State) (cap : Capture) : State :=
  { u with
    ctl := { u.ctl with mode := .selftest, testPassed := false }
    cap := cap
    ste :=
      { signature := 0x7E570000, fails := 0, phase := .s1, address := 0, units := 0
        savedLinkCfg := u.link.cfg, storeFaults := [] } }

/-! ## Requests at their acceptance point -/

/-- The header of the request being followed in DATA (R3). -/
def RxState.followed : RxState → Option Header
  | .data h _ => some h
  | _ => none

/-- The node follows the request `r`, whose block has the words its COUNT states, in a state that frames requests
(R2, R3). -/
def State.hears (s : State) (r : Request) : Prop :=
  s.link.rx.followed = some r.hdr ∧ s.ctl.mode.frames = true ∧ r.words.length = r.hdr.blockWords

/-- The node follows a DIRECT request with a data block that passes steps 4 and 5 of R16 at its acceptance point: its
data check passes and it is no duplicate. -/
def State.hearsFresh (s : State) (r : Request) : Prop :=
  s.hears r ∧ r.hdr.addressing = .direct ∧ r.hdr.command.hasBlock = true ∧ dataCheck r.words = r.check
    ∧ s.atPoint.link.mem.recognises r = false

/-- The block of a request. -/
def Request.block (r : Request) : Block := ⟨r.words, r.check⟩

/-- The node `after`, in ACK_WAIT with the reply that tells the verdict `v` on `r`, judged in `u` (R13, R16). -/
def State.answering (u after : State) (r : Request) (v : Verdict) : State :=
  after.withRx (.ackWait (u.replyFor after r.hdr v) 0)

/-- The reply memory as an executed DIRECT WRITE, ORDER or SET_ID loads it (R19). -/
def Request.memory (r : Request) : ReplyMemory where
  valid := true
  seq := r.hdr.seq
  command := r.hdr.command
  address := r.hdr.address
  count := r.hdr.count
  crc := r.check

/-- The node `after` an executed DIRECT WRITE, ORDER or SET_ID: the reply memory loaded (R19), the ACCEPT token owed
(R13). -/
def State.executed (u after : State) (r : Request) : State :=
  u.answering { after with link := { after.link with mem := r.memory } } r .accept

/-- `r` is a WRITE outside the store that no check of R16 from step 8 to step 16 stops in SETUP or RUN. -/
structure State.WriteFits (s : State) (r : Request) : Prop where
  mode : s.ctl.mode = .setup ∨ s.ctl.mode = .run
  command : r.hdr.command = .write
  count : 1 ≤ r.hdr.count.toNat ∧ r.hdr.count.toNat ≤ 64
  region : regionOf r.hdr.address.toNat ≠ none ∧ regionOf r.hdr.address.toNat ≠ some .store ∧
    ∀ k < r.hdr.count.toNat, regionOf (r.hdr.address.toNat + k) = regionOf r.hdr.address.toNat
  writable : ∀ k < r.hdr.count.toNat, readOnlyWord (r.hdr.address.toNat + k) = false
  enables : r.hdr.firstEn = 0xF ∧ r.hdr.lastEn = 0xF
  values : ∀ k, (h : k < r.words.length) → badValue (r.hdr.address.toNat + k) r.words[k] = false
  unlocked : s.ctl.mode = .run →
    regionOf r.hdr.address.toNat ≠ some .activeWindow ∧ regionOf r.hdr.address.toNat ≠ some .channelTable ∧
      (regionOf r.hdr.address.toNat = some .registers →
        ∀ k < r.hdr.count.toNat, r.hdr.address.toNat + k ≠ 0x018)
  unfrozen : s.sct.commit.isSome = true → regionOf r.hdr.address.toNat ≠ some .stagedWindow

/-- The data block that a request row brings; a row of a request without one brings none (R2). Nothing for the rows that
are no request. -/
def rowBlock : Instr → Option Block
  | .read | .storeRead | .drain | .unusedCommand => some ⟨[], 0⟩
  | .registerWrite b | .linkStatusClear b | .feedStatusClear b | .channelRecordWrite b | .supersedeClear b
  | .activeTableWrite b | .stagedTableWrite b | .frameWatchWrite b | .storeCfgWrite b | .storeWrite b
  | .logLossClear b | .eventRetire b | .clearLost b | .alertEnableWrite b | .setId b | .unknownOrder b
  | .startRun b | .stopRun b | .enterQuiet b | .softReset b | .runSelftest b | .commit b | .discardStaged b
  | .clearMute b | .logReset b => some b
  | .startUnit _ | .beaconUnit | .beaconRunEnd _ _ | .framingError _ | .headerReceived _ | .ackTokenSend
  | .readDataSend | .replyEnd | .replyClash _ | .replyTruncated _ | .pinReset _ | .pinResetRelease _
  | .softResetStepDone _ | .selftestPhaseEnd _ | .chiChange _ | .feedMessage _ _ | .frameMarker _
  | .slotTick _ | .frameWatchExpiry | .pageOpenDone _ | .logWriterStep | .feedReceiverResync _ => none

/-- A READ or WRITE covers some word of `lo` to `hi`; with COUNT 0 it counts as covering the one word at ADDRESS (R6,
R16). -/
def Header.touches (h : Header) (lo hi : Nat) : Prop :=
  h.address.toNat ≤ hi ∧ lo < h.address.toNat + max 1 h.count.toNat

/-- A READ or WRITE names the store: its first word lies there (R121). -/
def Header.namesStore (h : Header) : Prop := 0x4000 ≤ h.address.toNat ∧ h.address.toNat ≤ 0x7FFF

/-- A WRITE outside the store that covers some word of `lo` to `hi`. -/
def Header.writesTo (h : Header) (lo hi : Nat) : Prop := h.command = .write ∧ ¬h.namesStore ∧ h.touches lo hi

/-- An ORDER that carries the code of `o` (R57). -/
def Header.carries (h : Header) (o : Order) : Prop := h.command = .order ∧ Order.ofCode h.address.toNat = some o

/-- The requests that a request row stands for (log entry 6). -/
def rowServes (c : Instr) (h : Header) : Prop :=
  match c with
  | .read => h.command = .read ∧ ¬h.namesStore
  | .storeRead => h.command = .read ∧ h.namesStore
  | .registerWrite _ =>
    h.command = .write ∧ ¬h.namesStore ∧
      (h.touches 0x004 0x004 ∨ h.touches 0x00E 0x00E ∨ h.touches 0x010 0x010 ∨ h.touches 0x019 0x019 ∨
        h.touches 0x021 0x021 ∨ h.touches 0x030 0x033 ∨
        ¬(h.touches 0x005 0x005 ∨ h.touches 0x00D 0x00D ∨ h.touches 0x011 0x014 ∨ h.touches 0x018 0x018 ∨
          h.touches 0x01B 0x01B ∨ h.touches 0x022 0x023 ∨ h.touches 0x100 0x11F ∨ h.touches 0x180 0x19F ∨
          h.touches 0x200 0x3FF))
  | .linkStatusClear _ => h.writesTo 0x005 0x005
  | .feedStatusClear _ => h.writesTo 0x011 0x014
  | .channelRecordWrite _ => h.writesTo 0x100 0x11F
  | .supersedeClear _ => h.writesTo 0x180 0x19F
  | .activeTableWrite _ => h.writesTo 0x200 0x2FF
  | .stagedTableWrite _ => h.writesTo 0x300 0x3FF
  | .frameWatchWrite _ => h.writesTo 0x00D 0x00D
  | .storeCfgWrite _ => h.writesTo 0x018 0x018
  | .storeWrite _ => h.command = .write ∧ h.namesStore
  | .logLossClear _ => h.writesTo 0x01B 0x01B
  | .eventRetire _ => h.writesTo 0x023 0x023
  | .clearLost b =>
    h.writesTo 0x023 0x023 ∧ (b.words.getD (0x023 - h.address.toNat) 0).getLsbD 8 = true
  | .alertEnableWrite _ => h.writesTo 0x022 0x022
  | .setId _ => h.command = .setId
  | .drain => h.command = .drain
  | .unusedCommand => h.command = .unused5 ∨ h.command = .unused6 ∨ h.command = .unused7
  | .unknownOrder _ => h.command = .order ∧ Order.ofCode h.address.toNat = none
  | .startRun _ => h.carries .startRun
  | .stopRun _ => h.carries .stopRun
  | .enterQuiet _ => h.carries .enterQuiet
  | .softReset _ => h.carries .softReset
  | .runSelftest _ => h.carries .runSelftest
  | .commit _ => h.carries .commit
  | .discardStaged _ => h.carries .discardStaged
  | .clearMute _ => h.carries .clearMute
  | .logReset _ => h.carries .logReset
  | .startUnit _ | .beaconUnit | .beaconRunEnd _ _ | .framingError _ | .headerReceived _ | .ackTokenSend
  | .readDataSend | .replyEnd | .replyClash _ | .replyTruncated _ | .pinReset _ | .pinResetRelease _
  | .softResetStepDone _ | .selftestPhaseEnd _ | .chiChange _ | .feedMessage _ _ | .frameMarker _
  | .slotTick _ | .frameWatchExpiry | .pageOpenDone _ | .logWriterStep | .feedReceiverResync _ => False

/-- What the command of a request row does when its request is executed (R10, R16 step 17). -/
def effectOf (c : Instr) (r : Request) : State → State :=
  match c with
  | .setId _ => applySetId r
  | .drain => applyDrain r
  | .startRun _ => applyStartRun r
  | .stopRun _ => applyStopRun r
  | .enterQuiet _ => applyEnterQuiet r
  | .softReset _ => applySoftReset r
  | .runSelftest _ => applyRunSelftest r
  | .commit _ => applyCommit r
  | .discardStaged _ => applyDiscardStaged r
  | .clearMute _ => applyClearMute r
  | .logReset _ => applyLogReset r
  | .registerWrite _ | .linkStatusClear _ | .feedStatusClear _ | .channelRecordWrite _ | .supersedeClear _
  | .activeTableWrite _ | .stagedTableWrite _ | .frameWatchWrite _ | .storeCfgWrite _ | .storeWrite _
  | .logLossClear _ | .eventRetire _ | .clearLost _ | .alertEnableWrite _ => applyWrite r
  | .read | .storeRead | .unusedCommand | .unknownOrder _ => id
  | .startUnit _ | .beaconUnit | .beaconRunEnd _ _ | .framingError _ | .headerReceived _ | .ackTokenSend
  | .readDataSend | .replyEnd | .replyClash _ | .replyTruncated _ | .pinReset _ | .pinResetRelease _
  | .softResetStepDone _ | .selftestPhaseEnd _ | .chiChange _ | .feedMessage _ _ | .frameMarker _
  | .slotTick _ | .frameWatchExpiry | .pageOpenDone _ | .logWriterStep | .feedReceiverResync _ => id

/-- `r` carries the order code of `o` with COUNT 1 (R6, R57). -/
def Request.orders (r : Request) (o : Order) : Prop :=
  r.hdr.command = .order ∧ Order.ofCode r.hdr.address.toNat = some o ∧ r.hdr.count = 1

/-! ## The node when a command acts -/

/-- The node when the command acts, once the units that come with it or that it lets pass have been received and the
node's own events before it have been taken (log entries 3 and 23). A row that is nothing but units has then been taken
whole. -/
def State.before (s : State) (c : Instr) : State :=
  match c with
  | .startUnit mid => s.receive .start mid
  | .beaconUnit => s.receive .beacon s.freeMid
  | .beaconRunEnd u mid => if s.link.beacons ≠ 0 ∧ u ≠ .beacon then s.receive u mid else s
  | .framingError u => if s.link.rx.inRequest = true ∧ u ≠ .octet then s.receive u 0 else s
  | .replyTruncated u =>
    if s.close.link.rx.reply?.isSome = true ∧ (u = .start ∨ u = .beacon) then s.receive u 0 else s
  | .headerReceived _ => match s.link.rx with | .header k => s.atHeaderEnd k | _ => s
  | .ackTokenSend => if s.close.link.rx.beforeToken = 0 then s else s.passUnits s.close.link.rx.beforeToken
  | .readDataSend =>
    if s.close.link.rx.beforeReadData = 0 then s else s.passUnits s.close.link.rx.beforeReadData
  | .replyEnd => if s.close.link.rx.beforeEnd = 0 then s else s.passUnits s.close.link.rx.beforeEnd
  | .replyClash _ => s.reach s.clashPlace
  | .pinReset _ => s.reach 11
  | .pinResetRelease _ => s.reach 12
  | .softResetStepDone mid => s.passWhile (·.ctl.softStep.isSome) mid (s.ctl.softStep.getD 0)
  | .selftestPhaseEnd _ =>
    (s.passWhile (State.phaseRuns s.ste.phase) 0 (s.ste.phase.length - s.ste.units)).reach 83
  | .chiChange _ => s.reach 0
  | .feedMessage f _ => s.reach (40 + f.toNat)
  | .feedReceiverResync f => s.reach (40 + f.toNat)
  | .frameMarker _ => (s.reach 30).sawMarker
  | .slotTick _ => s.reach 50
  | .frameWatchExpiry => (s.passWhile State.watchWaits 0 (s.lane.watchLimit - s.lane.watchCount)).reach 82
  | .pageOpenDone b =>
    match s.stl.bank b with
    | .opening _ n => (s.passWhile (State.openWaits b) 0 n).reach (80 + bankNumber b)
    | _ => s
  | .logWriterStep => if s.stl.writerDue then s.reach 60 else s
  | .read | .storeRead | .registerWrite _ | .linkStatusClear _ | .feedStatusClear _ | .channelRecordWrite _
  | .supersedeClear _ | .activeTableWrite _ | .stagedTableWrite _ | .frameWatchWrite _ | .storeCfgWrite _
  | .storeWrite _ | .logLossClear _ | .eventRetire _ | .clearLost _ | .alertEnableWrite _ | .setId _ | .drain
  | .unusedCommand | .unknownOrder _ | .startRun _ | .stopRun _ | .enterQuiet _ | .softReset _
  | .runSelftest _ | .commit _ | .discardStaged _ | .clearMute _ | .logReset _ => s.atPoint

end Sys2Proof.Machine
end

