-- ==== Sys2Proof/Certificates/Slice0/Obligations.lean ====
section
/-! DEFINITION. The statements about the LN-32, each a proposition for the provers. -/

open Sys2Proof Sys2Proof.Machine

/-! ## The queue of commands, the order within an instant -/

/-- One step runs the command at the front of the queue on the state with the queue's rest. On an empty queue the node
goes on by itself (log entry 1): the open instant ends; when none is open, one link unit is received, an octet of the
request being received or an IDLE, unless the octet that is next to come is one whose content a command must bring
(log entry 4); which feed lines are in the middle of a message then is a free value (log entry 13). -/
def Obligations.StepRunsFrontCommand : Prop :=
  (∀ (c : Instr) (rest : List Instr) (s : State),
    step { s with pending := c :: rest } = exec c { s with pending := rest }) ∧
  ∀ s : State, s.pending = [] →
    (s.now ≠ none → step s = .next s.close) ∧
    (s.now = none → s.link.rx.stalled = true → step s = .next s) ∧
    (s.now = none → s.link.rx.stalled = false →
      step s =
        .next (s.receive (if s.link.rx.inRequest = true then .octet else .idle) (Config.midMessage s.link.units)))

/-- Every command has an outcome, also in a state in which its event cannot occur (log entry 2), and none touches the
commands that wait behind it; the queue itself is the model's own (log entry 1). -/
def Obligations.ExecAnswersAndKeepsQueue : Prop :=
  ∀ (c : Instr) (s : State), ∃ t, exec c s = .next t ∧ t.pending = s.pending

/-- R60, R61: the commands of one instant are queued in the order of their places, none lost and none repeated, and the
places stand in the order of the eight steps (log entry 5); those of the state at their arrival (log entry 30). The
node's own events of an instant are taken in that order too: the log writer's step before step 7, a complete request,
then the page opens of bank 0 and bank 1, the frame watch, the end of a self-test phase. A command belongs to the open
instant when its place comes after what has been taken there, or when it and the last one taken are both of place 70,
the link's; otherwise that instant ends first. ALERTN takes its value when an instant has ended (R148). Which commands
share an instant is the model's choice (log entry 23). -/
def Obligations.InstantInFixedOrder : Prop :=
  (∀ (s : State) (cs : List Instr),
    (s.inOrder cs).Perm cs ∧ (s.inOrder cs).Pairwise (fun a b => s.place a ≤ s.place b) ∧
      s.arrive cs = { s with pending := s.pending ++ s.inOrder cs }) ∧
  (∀ (s : State) (level power : Bool) (n : BitVec 16) (m b : BitVec 25) (f g : BitVec 2) (ltag : BitVec 6)
      (bad : List (BitVec 20 × Word)) (mid : BitVec 4), s.link.beacons = 63 → f.toNat < g.toNat →
    [s.place (.chiChange level), s.place .beaconUnit, s.place (.pinReset power),
      s.place (.beaconRunEnd .idle mid), s.place (.frameMarker n), s.place (.feedMessage f m),
      s.place (.feedMessage g b), s.place (.slotTick ltag), s.place .logWriterStep, s.place .read,
      s.place (.pageOpenDone .bank0), s.place (.pageOpenDone .bank1), s.place .frameWatchExpiry,
      s.place (.selftestPhaseEnd bad)].Pairwise (· < ·)) ∧
  ∀ s : State,
    (∀ p ≤ 60, s.takeOwn p = s) ∧ s.takeOwn 70 = s.writerStep ∧ s.takeOwn 80 = s.writerStep.judgeWaiting ∧
      s.takeOwn 90 =
        (((s.writerStep.judgeWaiting.completeOpen .bank0).completeOpen .bank1).expireWatch).endPhaseIfDone [] ∧
    (s.now = none → s.close = s) ∧
    (s.now ≠ none → ∃ low : Bool,
      s.close = { s.takeOwn 90 with now := none, evu := { (s.takeOwn 90).evu with alertn := low } } ∧
        (low = true ↔ (s.takeOwn 90).ctl.mode ≠ .reset ∧ (s.takeOwn 90).evu.attention = true)) ∧
    ∀ p : Nat,
      (s.now = none → s.reach p = { s with now := some ⟨p, false, false, []⟩ }) ∧
      ∀ m, s.now = some m →
        (m.place < p ∨ (m.place = 70 ∧ p = 70) → ¬(m.marker = true ∧ p = 50) →
          s.reach p = { s.takeOwn p with now := some { m with place := p } }) ∧
        (p < m.place ∨ (p = m.place ∧ p ≠ 70) ∨ (m.marker = true ∧ p = 50) →
          s.reach p = { s.close with now := some ⟨p, false, false, []⟩ })

/-! ## Reset values and invariants -/

/-- The node right after power is applied is in RESET, RSTN counted as low, with the pin reset values of Table 10-1, and it
meets every invariant below. -/
def Obligations.ResetStateHolds : Prop :=
  State.ResetTo .powerPin State.reset State.reset ∧ State.reset.ctl.rstnLow = true ∧
    State.reset.link.beacons = 0 ∧ State.reset.pending = [] ∧ State.reset.now = none ∧
    State.reset.StoreCanonical ∧ State.reset.evu.Consistent ∧ State.reset.stl.QueueFits ∧
    State.reset.cap.SamplesConsistent ∧ State.reset.FieldsOnly ∧ State.reset.ModesConsistent ∧
    State.reset.RunTablesValid ∧ State.reset.LogConsistent

/-- Every step keeps the store's memory in its canonical form, which is the model's own way of holding the store (log
entry 16). -/
def Obligations.StoreStaysCanonical : Prop :=
  ∀ s t : State, s.StoreCanonical → step s = .next t → t.StoreCanonical

/-- R141, R74, R125: every step keeps at most 16 records in the event queue, with consecutive serials up to the one before
EVSERIAL; it keeps FRESH and NODATA apart, and at most eight records in the append queue. R69, R172, R174: in every writable
register and channel record a bit that carries no field stays 0. -/
def Obligations.QueuesAndSamplesStaySound : Prop :=
  ∀ s t : State, step s = .next t →
    (s.evu.Consistent → t.evu.Consistent) ∧ (s.cap.SamplesConsistent → t.cap.SamplesConsistent) ∧
      (s.stl.QueueFits → t.stl.QueueFits) ∧ (s.FieldsOnly → t.FieldsOnly)

/-- Every step keeps the operating state in agreement with every block: RESET exactly while a reset cause holds,
LISTEN in RESET and QUIET, no ID while RSTN is low or a link reset holds, a test phase exactly in SELFTEST, nothing
walked, driven or pending outside RUN, and RUN only in a named node that passed its test. -/
def Obligations.ModesStayConsistent : Prop :=
  ∀ s t : State, s.ModesConsistent → step s = .next t → t.ModesConsistent

/-- R85: in RUN the ACTIVE table stays valid at every step, and the STAGED table stays valid while its commit is
pending. -/
def Obligations.RunTablesStayValid : Prop :=
  ∀ s t : State, s.ModesConsistent → s.RunTablesValid → step s = .next t → t.RunTablesValid

/-- R123: every step keeps the ring of the log consistent. -/
def Obligations.LogRingStaysConsistent : Prop :=
  ∀ s t : State, s.ModesConsistent → s.LogConsistent → step s = .next t → t.LogConsistent

/-! ## Rules about the whole machine -/

/-- R29: NODE_ID changes only by SET_ID, or to 0 in a pin or link reset. -/
def Obligations.NodeIdChangesOnlyAsStated : Prop :=
  ∀ (c : Instr) (s t : State), exec c s = .next t → t.ident.nodeId ≠ s.ident.nodeId →
    (∃ b, c = .setId b) ∨
      (t.ident.nodeId = 0 ∧ t.ctl.mode = .reset ∧
        (t.ctl.resetCause = .powerPin ∨ t.ctl.resetCause = .link))

/-- R42: the operating state changes only by the transitions of R43 to R52, each by the cause its rule names. The node's
own events of an instant: only the end of phase S6 moves it, from SELFTEST to SETUP (R45). A link unit: the 64th BEACON
of a run (R43, R55) and the end of the reply to a SOFT_RESET (R51) bring RESET; the unit that ends the last reset cause
brings SELFTEST (R44); a unit that ends a run of 4 to 7 wakes a node in QUIET (R50); the end of the reply to an ENTER_QUIET
brings QUIET (R48). Beyond the units that come with it, a command moves the node only as an RSTN change, a lost clash
that ends such a reply, the end of S6, a stop (R47), START_RUN (R46), RUN_SELFTEST (R52), or a broadcast ENTER_QUIET or
SOFT_RESET. -/
def Obligations.ModeChangesOnlyAsListed : Prop :=
  (∀ (s : State) (p : Nat), s.ModesConsistent → (s.takeOwn p).ctl.mode ≠ s.ctl.mode →
    s.ctl.mode = .selftest ∧ s.ste.phase = .s6 ∧ 256 ≤ s.ste.units ∧ (s.takeOwn p).ctl.mode = .setup) ∧
  (∀ (s : State) (u : LinkUnit) (mid : BitVec 4) (p : Nat), s.ModesConsistent → p ≤ 70 →
    let v := s.openUnit p
    let t := s.unit u mid p
    let ends : AfterReply → Prop := fun a => ∃ r, v.link.rx.endedBy u = some r ∧ r.after = a
    t.ctl.mode ≠ v.ctl.mode →
    (t.ctl.mode = .reset ∧ u = .beacon ∧ v.link.beacons = 63) ∨
      (t.ctl.mode = .reset ∧ (v.ctl.mode = .setup ∨ v.ctl.mode = .run) ∧ ends .softReset) ∨
      (v.ctl.mode = .reset ∧ t.ctl.mode = .selftest ∧ v.ctl.rstnLow = false ∧
        (v.ctl.softStep = none ∨ v.ctl.softStep = some 0) ∧ (u ≠ .beacon ∨ v.link.beacons.toNat < 63) ∧
        ((u ≠ .beacon ∧ 64 ≤ v.link.beacons.toNat) ∨ v.ctl.softStep = some 0)) ∨
      (v.ctl.mode = .quiet ∧ t.ctl.mode = .setup ∧ u ≠ .beacon ∧ 4 ≤ v.link.beacons.toNat ∧
        v.link.beacons.toNat ≤ 7) ∨
      (v.ctl.mode = .setup ∧ t.ctl.mode = .quiet ∧ ends .enterQuiet)) ∧
  ∀ (c : Instr) (s t : State), s.ModesConsistent → exec c s = .next t →
    let u := s.before c
    let broadcast : Prop := ∃ h, s.link.rx.followed = some h ∧ h.addressing = .broadcast
    let clashEnds : AfterReply → Prop := fun a =>
      (∃ bit, c = .replyClash bit) ∧ ∃ r n, s.link.rx.reply? = some (r, n) ∧ r.after = a
    t.ctl.mode ≠ s.ctl.mode → t.ctl.mode ≠ u.ctl.mode →
    (t.ctl.mode = .reset ∧ ∃ power, c = .pinReset power) ∨
      (t.ctl.mode = .reset ∧ (u.ctl.mode = .setup ∨ u.ctl.mode = .run) ∧
        (clashEnds .softReset ∨ (∃ b, c = .softReset b) ∧ broadcast)) ∨
      (u.ctl.mode = .reset ∧ t.ctl.mode = .selftest ∧ (∃ mid, c = .pinResetRelease mid) ∧
        u.ctl.rstnLow = true ∧ u.link.beacons.toNat < 64 ∧ u.ctl.softStep = none) ∨
      (u.ctl.mode = .selftest ∧ t.ctl.mode = .setup ∧ (∃ failed, c = .selftestPhaseEnd failed) ∧
        u.ste.phase = .s6 ∧ 256 ≤ u.ste.units) ∨
      (u.ctl.mode = .setup ∧ t.ctl.mode = .selftest ∧ ∃ b, c = .runSelftest b) ∨
      (u.ctl.mode = .setup ∧ t.ctl.mode = .run ∧ ∃ b, c = .startRun b) ∨
      (u.ctl.mode = .run ∧ t.ctl.mode = .setup ∧
        ((∃ b, c = .stopRun b) ∨ ((∃ n, c = .frameMarker n) ∧ u.ctl.stop ≠ none) ∨
          ((∃ l, c = .slotTick l) ∧ u.ctl.stop = some .now))) ∨
      (u.ctl.mode = .setup ∧ t.ctl.mode = .quiet ∧
        (clashEnds .enterQuiet ∨ (∃ b, c = .enterQuiet b) ∧ broadcast))

/-- R49, R168: what a node in QUIET keeps as long as it stays there. The store words, the ring and its counters, the banks,
the append queue, the event queue and LOST change only while the log writer still has records to write or a page is being
opened, and then only with a unit or a writer step. -/
def Obligations.QuietRetainsState : Prop :=
  ∀ (c : Instr) (s t : State), s.ModesConsistent → s.ctl.mode = .quiet → exec c s = .next t →
    t.ctl.mode = .quiet →
    (t.ident.nodeId = s.ident.nodeId ∧ t.link.cfg = s.link.cfg ∧ t.link.statusWord = s.link.statusWord ∧
      t.link.mem = s.link.mem ∧ t.link.drain = s.link.drain ∧ t.cap.feedCfg = s.cap.feedCfg ∧
      t.cap.span = s.cap.span ∧ t.cap.channels = s.cap.channels ∧
      (∀ f, (t.cap.feed f).statusWord = (s.cap.feed f).statusWord) ∧ t.sct = s.sct ∧ t.lane = s.lane ∧
      t.stl.cfg = s.stl.cfg ∧ t.stl.watermark = s.stl.watermark ∧ t.evu.enable = s.evu.enable ∧
      t.evu.alert = s.evu.alert ∧ t.ste = s.ste ∧ t.user = s.user ∧ t.ctl = s.ctl) ∧
    (s.stl.queue = [] → (∀ b, (s.stl.bank b).isOpening = false) →
      t.stl = { s.stl with writerDue := t.stl.writerDue } ∧ t.evu = { s.evu with alertn := t.evu.alertn }) ∧
    (s.now = none → (∀ mid, c ≠ .startUnit mid) → c ≠ .beaconUnit → (∀ u mid, c ≠ .beaconRunEnd u mid) →
      c ≠ .logWriterStep → (∀ b, c ≠ .pageOpenDone b) → t.stl = s.stl ∧ t.evu = s.evu)

/-- R19, R21: the reply memory changes only when a DIRECT WRITE, ORDER or SET_ID is executed, which loads it, and in
a reset, which clears its valid flag; that a reset keeps its other fields is read from R21 by inference (log entry 9). -/
def Obligations.ReplyMemoryChangesOnlyAsStated : Prop :=
  ∀ (c : Instr) (s t : State), s.ModesConsistent → exec c s = .next t → t.link.mem ≠ s.link.mem →
    (∃ r : Request, s.link.rx.followed = some r.hdr ∧ r.hdr.addressing = .direct ∧
      r.hdr.command.hasBlock = true ∧ s.atPoint.verdict r = .accept ∧ t.link.mem = r.memory) ∨
      (t.ctl.mode = .reset ∧ t.link.mem = { s.link.mem with valid := false })

/-! ## Units, beacon runs, framing errors -/

/-- R3, R42: a START that ends no beacon run and finds the link interface in LISTEN begins a request in SELFTEST, SETUP and
RUN; in RESET and QUIET it is ignored. That it does so at step 7 of its instant is inferred (log entry 5). R54: every BEACON
unit increments the counter, saturating at 255, in every operating state and every receive state; one that is not the 64th
and arrives in LISTEN does nothing else. (The unit that completes a soft reset's step: LastResetCauseEndsReset.) -/
def Obligations.StartAndBeaconUnitsReceived : Prop :=
  (∀ (mid : BitVec 4) (s : State), s.link.rx = .listen → s.link.beacons = 0 →
    let v := s.openUnit 70
    let w := v.reach 70
    (∀ n, s.ctl.softStep = some n → 2 ≤ n) →
    exec (.startUnit mid) s =
      .next (w.withRx (if w.ctl.mode = .reset ∨ w.ctl.mode = .quiet then .listen else .header 0))) ∧
  ((∀ s : State, ∃ t, exec .beaconUnit s = .next t ∧
    t.link.beacons = if s.link.beacons = 255 then 255 else s.link.beacons + 1) ∧
  ∀ s : State, s.link.rx = .listen → s.link.beacons ≠ 63 →
    let v := s.openUnit 70
    (∀ n, s.ctl.softStep = some n → 2 ≤ n) →
    exec .beaconUnit s =
      .next { v with
        link := { v.link with beacons := if s.link.beacons = 255 then 255 else s.link.beacons + 1 } })

/-- R43, R55, R163, R164: RSTN going low, and the 64th unit of a beacon run in any receive state, put the node in
RESET with every value of Table 10-1 for that kind (power-on: log entry 17). With RSTN low already a PIN_RESET does so too
(the model's choice, log entry 31). -/
def Obligations.PinAndLinkResetApplyTable : Prop :=
  (∀ (power : Bool) (s : State), ∃ t, exec (.pinReset power) s = .next t ∧
    State.ResetTo .powerPin (s.reach 11) t ∧
    t.ctl.rstnLow = true ∧ t.link.beacons = (if power then 0 else s.link.beacons) ∧
    t.ctl.softStep = (if power then none else s.ctl.softStep)) ∧
  ∀ s : State, s.link.beacons = 63 → ∃ t, exec .beaconUnit s = .next t ∧
    State.ResetTo .link (s.openUnit 10) t ∧
    t.link.beacons = 64 ∧ t.ctl.rstnLow = s.ctl.rstnLow

/-- R50, R54, R56: the unit that ends a run of fewer than 64 units judges it by its length and the operating state: 4 to 7
units wake a node in QUIET, 8 to 63 raise BEACON_STRAY in SETUP and RUN with STATE and length, every other run is
ignored; the counter returns to 0, and the unit is then received in the state the run left. A run that reaches 64 units
is a link reset. -/
def Obligations.BeaconRunEndJudged : Prop :=
  (∀ s : State, s.link.beacons = 63 → ∃ t, exec .beaconUnit s = .next t ∧
    t.ctl.mode = .reset ∧ t.ctl.resetCause = .link) ∧
  ∀ (u : LinkUnit) (mid : BitVec 4) (s : State), u ≠ .beacon → s.link.beacons ≠ 0 → s.link.rx = .listen →
    let v := s.openUnit 20
    let n := s.link.beacons.toNat
    let r : State := { v with link := { v.link with beacons := 0 }, now := v.now.map (·.upTo 20) }
    let framed : State → State := fun x => if u = .start then x.withRx (.header 0) else x
    (∀ n, s.ctl.softStep = some n → 2 ≤ n) →
    (v.ctl.mode = .quiet → 4 ≤ n → n ≤ 7 →
      exec (.beaconRunEnd u mid) s = .next (framed { r with ctl := { r.ctl with mode := .setup } })) ∧
    (v.ctl.mode = .quiet → n ≤ 3 ∨ (8 ≤ n ∧ n ≤ 63) → exec (.beaconRunEnd u mid) s = .next r) ∧
    (v.ctl.mode = .setup ∨ v.ctl.mode = .run → n ≤ 7 → exec (.beaconRunEnd u mid) s = .next (framed r)) ∧
    (v.ctl.mode = .setup ∨ v.ctl.mode = .run → 8 ≤ n → n ≤ 63 →
      exec (.beaconRunEnd u mid) s =
        .next (framed (r.raise .beaconStray ((if v.ctl.mode = .setup then 2#8 else 3#8) ++ s.link.beacons)))) ∧
    (v.ctl.mode = .selftest → n ≤ 63 → exec (.beaconRunEnd u mid) s = .next (framed r)) ∧
    (v.ctl.mode = .reset → n ≤ 63 → exec (.beaconRunEnd u mid) s = .next r)

/-- R44, R55, R63, R163: what ends RESET: the unit that ends a run of 64 or more, RSTN going high, the last unit of the soft
reset's step. Without another cause the node is in SELFTEST at that instant, its feed receivers released, and the unit
that ended the cause is received there: a START is framed (for the soft reset's step this is inferred from R60, log
entry 25), a BEACON counts (which feed lines are in the middle of a message is then a free value, log entry 13). With
another cause it stays in RESET. The test that begins as RSTN goes high does not count a unit that ends at that instant
(log entry 28). SOFT_RESET_STEP_DONE lets the units still to come pass (log entry 3). -/
def Obligations.LastResetCauseEndsReset : Prop :=
  (∀ (u : LinkUnit) (mid : BitVec 4) (s : State), u ≠ .beacon → s.link.rx = .listen → 64 ≤ s.link.beacons.toNat →
    let v := s.openUnit 13
    let r : State :=
      { v with
        link := { v.link with beacons := 0 }
        ctl := { v.ctl with softStep := if v.ctl.softStep = some 0 then none else v.ctl.softStep }
        now := v.now.map (·.upTo 13) }
    v.ctl.mode = .reset →
    (v.ctl.rstnLow = false → v.ctl.softStep = none ∨ v.ctl.softStep = some 0 →
      ∃ cap, v.cap.Released cap mid ∧
        exec (.beaconRunEnd u mid) s =
          .next ((r.testBegun cap).withRx (if u = .start then .header 0 else .listen))) ∧
    (v.ctl.rstnLow = true ∨ (v.ctl.softStep ≠ none ∧ v.ctl.softStep ≠ some 0) →
      exec (.beaconRunEnd u mid) s = .next r)) ∧
  (∀ (mid : BitVec 4) (s : State),
    let u := s.reach 12
    let r : State := { u with ctl := { u.ctl with rstnLow := false } }
    u.ctl.mode = .reset → u.ctl.rstnLow = true →
    (u.link.beacons.toNat < 64 → u.ctl.softStep = none →
      ∃ cap, u.cap.Released cap mid ∧
        exec (.pinResetRelease mid) s =
          .next { r.testBegun cap with now := u.now.map (fun m => { m with begun := m.begun ++ [.phase] }) }) ∧
    (64 ≤ u.link.beacons.toNat ∨ u.ctl.softStep ≠ none → exec (.pinResetRelease mid) s = .next r)) ∧
  (∀ (mid : BitVec 4) (s : State) (n : Nat), s.ModesConsistent → s.ctl.softStep = some n → 1 ≤ n →
    ∃ t, exec (.softResetStepDone mid) s = .next t ∧ t.ctl.softStep = none ∧ t.link.units = s.link.units + n ∧
      (s.ctl.rstnLow = true → t.ctl.mode = .reset) ∧
      (s.ctl.rstnLow = false → t.ctl.mode = .selftest ∧ t.ctl.testPassed = false ∧ s.cap.Released t.cap mid ∧
        t.ste =
          { signature := 0x7E570000, fails := 0, phase := .s1, address := 0, units := 0
            savedLinkCfg := s.link.cfg, storeFaults := [] })) ∧
  ∀ (mid : BitVec 4) (s : State), s.link.rx = .listen →
    let v := s.openUnit 13
    let r : State := { v with ctl := { v.ctl with softStep := none }, now := v.now.map (·.upTo 13) }
    let b : State := { r with
      link := { r.link with beacons := if s.link.beacons = 255 then 255 else s.link.beacons + 1 } }
    v.ctl.mode = .reset → v.ctl.softStep = some 0 →
    (s.link.beacons = 0 → v.ctl.rstnLow = false → ∃ cap, v.cap.Released cap mid ∧
      exec (.startUnit mid) s = .next ((r.testBegun cap).withRx (.header 0))) ∧
    (s.link.beacons = 0 → v.ctl.rstnLow = true → exec (.startUnit mid) s = .next r) ∧
    (s.link.beacons.toNat < 63 → v.ctl.rstnLow = false → ∃ cap, v.cap.Released cap (Config.midMessage s.link.units) ∧
      exec .beaconUnit s = .next (b.testBegun cap)) ∧
    (s.link.beacons ≠ 63 → v.ctl.rstnLow = true ∨ 64 ≤ s.link.beacons.toNat →
      exec .beaconUnit s = .next b)

/-- R4: an IDLE, START or BEACON in HEADER, or in DATA before the last octet of the block, is a framing error: HEADER_ERRORS
counts it, the request is discarded without an event; a START begins a new request, a BEACON is the first unit of a run.
That it is taken at step 7 of its instant, after the log writer's step, is inferred (log entry 5). A request without a
data block is complete with its header and cannot be cut short. -/
def Obligations.FramingErrorCutsRequest : Prop :=
  (∀ (u : LinkUnit) (s : State), u ≠ .octet → s.link.beacons = 0 →
    (∃ k, s.link.rx = .header k) ∨ (∃ h k, s.link.rx = .data h k ∧ h.command.hasBlock = true) →
    let v := s.openUnit 70
    let w := v.reach 70
    v.ctl.mode.frames = true → (∀ n, s.ctl.softStep = some n → 2 ≤ n) →
    exec (.framingError u) s =
      .next { w with
        link := { w.link with
          headerErrors := if w.link.headerErrors = 255 then 255 else w.link.headerErrors + 1
          beacons := if u = .beacon then 1 else 0
          rx := if u = .start then .header 0 else .listen } }) ∧
  ∀ (u : LinkUnit) (s : State) (h : Header) (k : Nat), s.link.rx = .data h k → h.command.hasBlock = false →
    exec (.framingError u) s = .next s

/-! ## The header -/

/-- R7, R8: HEADER_CHECK is the cyclic check with generator 07h and initial value 00h over header octets 1 to 7, the data
check the one with generator 1021h and initial value FFFFh over the words, each most significant bit first. R5, R15: where
each field of the header stands in its eight octets. At the end of the header a failed check is counted, raised and
ignored; a request addressed to the node is followed; any other leaves the node in LISTEN with nothing counted. The octets
still to come pass first (log entry 3). -/
def Obligations.HeaderJudgedAtItsEnd : Prop :=
  ((∀ o : BitVec 64, headerCheck o =
      (List.range 56).foldl (fun (r : BitVec 8) k => if r.msb ≠ o.getMsbD k then (r <<< 1) ^^^ 0x07 else r <<< 1) 0) ∧
    dataCheck [] = 0xFFFF ∧
    ∀ (ws : List Word) (w : Word), dataCheck (ws ++ [w]) =
      (List.range 32).foldl (fun (r : BitVec 16) k => if r.msb ≠ w.getMsbD k then (r <<< 1) ^^^ 0x1021 else r <<< 1)
        (dataCheck ws)) ∧
  (∀ o1 o2 o3 o4 o5 o6 o7 o8 : BitVec 8,
    let h := Header.parse (o1 ++ o2 ++ o3 ++ o4 ++ o5 ++ o6 ++ o7 ++ o8)
    h.addressing.code = o1.extractLsb' 6 2 ∧ h.dest = o1.extractLsb' 0 6 ∧
      h.command.code = o2.extractLsb' 5 3 ∧ h.seq = o2.extractLsb' 1 4 ∧
      h.address = o3 ++ o4 ++ o5.extractLsb' 4 4 ∧ h.firstEn = o5.extractLsb' 0 4 ∧
      h.lastEn = o6.extractLsb' 4 4 ∧ h.count = o7.extractLsb' 0 7) ∧
  [Addressing.direct, .broadcast, .chainHead, .noNode].map Addressing.code = [0, 1, 2, 3] ∧
  [Command.read, .write, .order, .setId, .drain, .unused5, .unused6, .unused7].map Command.code =
    [0, 1, 2, 3, 4, 5, 6, 7] ∧
  (∀ (o : BitVec 64) (s : State) (k : Nat), s.link.rx = .header k →
    let u := s.atHeaderEnd k
    let h := Header.parse o
    (headerCheck o ≠ o.extractLsb' 0 8 →
      exec (.headerReceived o) s =
        .next ({ u with
          link := { u.link with
            rx := .listen
            headerErrors := if u.link.headerErrors = 255 then 255 else u.link.headerErrors + 1 } }.raise
          .headerCheck (headerCheck o ++ o.extractLsb' 0 8))) ∧
    (headerCheck o = o.extractLsb' 0 8 →
      (h.addressing = .direct ∧ u.ident.nodeId ≠ 0 ∧ h.dest = u.ident.nodeId) ∨ h.addressing = .broadcast ∨
        (h.addressing = .chainHead ∧ u.ident.chi = true ∧ u.ident.nodeId = 0) →
      exec (.headerReceived o) s = .next (u.withRx (.data h 0))) ∧
    (headerCheck o = o.extractLsb' 0 8 →
      (h.addressing = .direct ∧ (u.ident.nodeId = 0 ∨ h.dest ≠ u.ident.nodeId)) ∨ h.addressing = .noNode ∨
        (h.addressing = .chainHead ∧ (u.ident.chi = false ∨ u.ident.nodeId ≠ 0)) →
      exec (.headerReceived o) s = .next (u.withRx .listen)))

/-! ## The reply -/

/-- R11, R12, R37: the three token octets of a reply, bit by bit: verdict, attention flag as it stands after every effect,
0, SEQ echo; 0 and the reason, hint or 0; the serial stamp. R17: the reason codes. R13, R14: its delays are those of
LINK_CFG before the request's own effects, in SELFTEST those held when the test began; a value out of range counts as the
default (R152). -/
def Obligations.ReplyTokenAndDelays : Prop :=
  [Reason.badCommand, .unnamed, .wrongState, .badOrder, .badCount, .badAddress, .badSpan, .readOnly, .badEnables,
    .badValue, .badId, .locked, .badTable, .testFailed, .dataCheck].map Reason.code =
    [1, 2, 3, 4, 5, 6, 7, 8, 9, 10, 11, 12, 13, 14, 15] ∧
  (∀ (u after : State) (h : Header) (v : Verdict),
    ∃ a b c : Octet, (u.replyFor after h v).token = [a, b, c] ∧
      a.extractLsb' 6 2 = (match v with | .accept | .duplicate => 1 | .defer _ => 2 | .refuse _ => 3) ∧
      a.getLsbD 5 = after.evu.attention ∧ a.getLsbD 4 = false ∧ a.extractLsb' 0 4 = h.seq ∧
      b.extractLsb' 4 4 = 0 ∧
      b.extractLsb' 0 4 =
        (match v with
          | .accept | .duplicate => 0
          | .defer n => BitVec.ofNat 4 n
          | .refuse why => BitVec.ofNat 4 why.code) ∧
      c = Config.serial.extractLsb' 0 8) ∧
  (∀ (u after : State) (h : Header) (v : Verdict),
    let w := if u.ctl.mode = .selftest then u.ste.savedLinkCfg else u.link.cfg
    let d := (w.extractLsb' 0 4).toNat
    let e := (w.extractLsb' 4 4).toNat
    (2 ≤ d ∧ d ≤ 9 → (u.replyFor after h v).ackDelay = d) ∧
      (d < 2 ∨ 9 < d → (u.replyFor after h v).ackDelay = 4) ∧
      (1 ≤ e ∧ e ≤ 8 → (u.replyFor after h v).readDelay = e) ∧
      (e < 1 ∨ 8 < e → (u.replyFor after h v).readDelay = 2))

/-- R13: the token begins when ACK_DELAY units have passed; the read data of a reply that has some begins when the token's
octets and READ_DELAY units have passed. R3, R48, R51, R165: the last octet of a reply returns the link interface to
LISTEN; the reply of an ENTER_QUIET then brings QUIET with every channel NODATA (R77), that of a SOFT_RESET the soft
reset, whose step has 16 units to pass (R163). That ACK_TOKEN_SEND, READ_DATA_SEND and REPLY_END given early let the units
still to come pass one by one, each with its own events, is log entry 3. -/
def Obligations.ReplyIsSentToItsEnd : Prop :=
  (∀ (s : State) (r : Reply) (k : Nat),
    (s.link.rx = .ackWait r k → k < r.ackDelay →
      let t := s.passUnits (r.ackDelay - k)
      exec .ackTokenSend s = .next t ∧ t.link.rx = .token r 0 ∧
        t.link.units = s.link.units + (r.ackDelay - k)) ∧
    (s.link.rx = .token r k → k < 3 → r.data.isSome = true → 1 ≤ r.readDelay →
      let t := s.passUnits (3 - k + r.readDelay)
      exec .readDataSend s = .next t ∧ t.link.rx = .readData r 0 ∧
        t.link.units = s.link.units + (3 - k + r.readDelay)) ∧
    (s.link.rx = .readWait r k → k < r.readDelay →
      let t := s.passUnits (r.readDelay - k)
      exec .readDataSend s = .next t ∧ t.link.rx = .readData r 0 ∧
        t.link.units = s.link.units + (r.readDelay - k))) ∧
  (∀ (s : State) (r : Reply) (k n : Nat),
    (s.link.rx = .token r k ∧ r.data = none ∧ n + k = 2) ∨
      (∃ d, s.link.rx = .readData r k ∧ r.data = some d ∧ n + k + 1 = d.length) →
    let u := (s.passUnits n).forUnit
    let w := u.openUnit (u.unitPlace .idle)
    let t := s.passUnits (n + 1)
    exec .replyEnd s = .next t ∧ t.link.rx = .listen ∧ t.link.units = s.link.units + n + 1 ∧
    (r.after = .enterQuiet → s.link.beacons = 0 → t.ctl.mode = .quiet ∧ t.evu = w.evu ∧
      t.cap = { w.cap with channels := t.cap.channels } ∧
      ∀ c < 32, t.cap.channel c =
        { w.cap.channel c with sample := { (w.cap.channel c).sample with noData := true, fresh := false } }) ∧
    (r.after = .softReset → State.ResetTo .soft w t ∧ t.ctl.softStep = some 16))

/-- R24, R38, R48, R165: a 1 sent and read as 0 ends the reply at that bit; CLASHES counts it and REPLY_CLASH carries
the serial stamp and the octet's position; but at the end of an ENTER_QUIET or SOFT_RESET reply only the QUIET or the
soft reset comes. A 0 cannot be lost. -/
def Obligations.ClashEndsReply : Prop :=
  ∀ (s : State) (bit : BitVec 3) (r : Reply) (k before : Nat) (o : Octet),
    (s.link.rx = .token r k ∧ r.token[k]? = some o ∧ before = k) ∨
      (∃ d, s.link.rx = .readData r k ∧ r.data = some d ∧ d[k]? = some o ∧ before = 3 + k) →
    let u := s.reach 70
    let v := s.reach 10
    (o.getMsbD bit.toNat = true → r.after = .nothing →
      exec (.replyClash bit) s =
        .next ({ u with
          link := { u.link with
            clashes := if u.link.clashes = 255 then 255 else u.link.clashes + 1
            rx := .listen } }.raise .replyClash
          (Config.serial.extractLsb' 0 8 ++ BitVec.ofNat 8 (min (before + 1) 255)))) ∧
    (o.getMsbD bit.toNat = true → r.after = .enterQuiet → ∃ t, exec (.replyClash bit) s = .next t ∧
      t.ctl.mode = .quiet ∧ t.link = { v.link with rx := .listen } ∧ t.evu = v.evu) ∧
    (o.getMsbD bit.toNat = true → r.after = .softReset → ∃ t, exec (.replyClash bit) s = .next t ∧
      State.ResetTo .soft v t) ∧
    (o.getMsbD bit.toNat = false → exec (.replyClash bit) s = .next s)

/-- R25, R48, R165: a START or BEACON abandons the reply. REPLY_TRUNCATED, raised at step 7 after the log writer's step,
carries the octets completely sent, COMMAND and SEQ; a START begins a new request, a BEACON a run. At the end of an
ENTER_QUIET or SOFT_RESET reply no event is raised and the START is not framed. -/
def Obligations.ReplyAbandoned : Prop :=
  ∀ (s : State) (u : LinkUnit) (r : Reply) (sent : Nat), s.link.rx.reply? = some (r, sent) →
    u = .start ∨ u = .beacon → s.link.beacons = 0 →
    let v := s.openUnit 70
    let w := v.reach 70
    let x := s.openUnit (s.unitPlace u)
    (r.after = .nothing → v.ctl.mode.frames = true → (∀ n, s.ctl.softStep = some n → 2 ≤ n) →
      exec (.replyTruncated u) s =
        .next ({ w with
          link := { w.link with
            beacons := if u = LinkUnit.beacon then 1 else 0
            rx := if u = LinkUnit.start then .header 0 else .listen } }.raise .replyTruncated
          (BitVec.ofNat 8 (min sent 255) ++ 0#1 ++ r.command.code ++ r.seq))) ∧
    (r.after = .enterQuiet → ∃ t, exec (.replyTruncated u) s = .next t ∧ t.ctl.mode = .quiet ∧
      t.link.rx = .listen ∧ t.link.beacons = (if u = LinkUnit.beacon then 1 else 0) ∧ t.evu = x.evu) ∧
    (r.after = .softReset → ∃ t, exec (.replyTruncated u) s = .next t ∧ State.ResetTo .soft x t ∧
      t.link.beacons = (if u = LinkUnit.beacon then 1 else 0))

/-! ## Requests: the verdict -/

/-- R2, R10, R15: a request row judges the request whose header the node follows, once the octets still to come have
passed (log entry 3), at its acceptance point, with the row's own effect: for every header that belongs to the row (log
entry 6) and every block with the words its COUNT states. It changes nothing when there is no such request (log entry
2). A request without a data block that stands at its acceptance point is judged there before the instant goes on, whether
or not its row is given. -/
def Obligations.RequestRowsJudgeTheRequest : Prop :=
  (∀ (c : Instr) (s : State) (b : Block), rowBlock c = some b →
    (∀ h : Header, s.link.rx.followed = some h → rowServes c h → s.ctl.mode.frames = true →
      b.words.length = h.blockWords →
      let r : Request := ⟨h, b.words, b.check⟩
      exec c s = .next (s.atPoint.judge (effectOf c r) r)) ∧
    ((∀ h : Header, s.link.rx.followed = some h → rowServes c h → s.ctl.mode.frames = true →
      b.words.length ≠ h.blockWords) → exec c s = .next s)) ∧
  ∀ s : State,
    (s.link.rx.blockLeft = 0 → s.atPoint = s.reach 70) ∧
    (∀ n, s.link.rx.blockLeft = n + 1 → s.atPoint = ((s.passUnits n).unit .octet 0 70).reach 70) ∧
    ∀ (h : Header) (k : Nat), s.link.rx = .data h k → s.ctl.mode.frames = true → h.command.hasBlock = false →
      s.judgeWaiting =
        s.judge (if h.command = .drain then applyDrain ⟨h, [], 0⟩ else id) ⟨h, [], 0⟩

/-- R16 steps 4 and 5, R20: a failed data check refuses the request with DATA_CHECK, counts it and raises the event; a
duplicate is acknowledged and executes nothing. Both come before any check of the operating state. -/
def Obligations.DataCheckAndDuplicateComeFirst : Prop :=
  ∀ (u : State) (apply : State → State) (r : Request), r.hdr.command.hasBlock = true →
    (dataCheck r.words ≠ r.check →
      u.judgeAddressed apply r =
        u.answering ({ u with
            link := { u.link with
              dataErrors := if u.link.dataErrors = 255 then 255 else u.link.dataErrors + 1 } }.raise .dataCheck
            (0#5 ++ r.hdr.command.code ++ 0#2 ++ r.hdr.addressing.code ++ r.hdr.seq)) r (.refuse .dataCheck)) ∧
    (dataCheck r.words = r.check → r.hdr.addressing = .direct → u.link.mem.valid = true →
      u.link.mem.seq = r.hdr.seq → u.link.mem.command = r.hdr.command →
      u.link.mem.address = r.hdr.address → u.link.mem.count = r.hdr.count → u.link.mem.crc = r.check →
      u.judgeAddressed apply r = u.answering u r .duplicate)

/-- R17: a refused or deferred DIRECT or CHAIN_HEAD request changes nothing but the receive state, and, by its
reason, DATA_ERRORS with its event, TABLE_CHECK after a validation (R83), or the page state of a bank. -/
def Obligations.RefusalsAndDeferralsChangeNothingElse : Prop :=
  ∀ (u : State) (apply : State → State) (r : Request),
    (∀ why, u.verdict r = .refuse why → why ≠ .dataCheck → why ≠ .badTable →
      u.judgeAddressed apply r = u.answering u r (.refuse why)) ∧
    (u.verdict r = .refuse .badTable →
      let ofActive := decide (Order.ofCode r.hdr.address.toNat ≠ some .commit)
      u.judgeAddressed apply r =
        u.answering { u with sct := { u.sct with check := u.validate ofActive } } r (.refuse .badTable)) ∧
    (∀ n, u.verdict r = .defer n → n = 15 ∧ u.judgeAddressed apply r = u.answering u r (.defer 15) ∨
      n = 2 ∧ ∃ bank0 bank1,
        u.judgeAddressed apply r =
          u.answering { u with stl := { u.stl with bank0 := bank0, bank1 := bank1 } } r (.defer 2))

/-- R58, R59: step 8 in SELFTEST, SETUP and RUN. In SELFTEST every DIRECT request but a READ inside 000h-03Fh is deferred
with hint 15, whatever its count, address or value, once it has passed steps 4 to 7; in SETUP and RUN the matrix refuses
with WRONG_STATE or, while a stop is pending, defers with hint 15. R16 step 7, R34: a CHAIN_HEAD request that is neither
a READ inside 000h-003h nor a SET_ID is refused with UNNAMED, in every operating state. R16 step 6, R57: an unused command
code is refused with BAD_COMMAND, an unknown order code in SETUP and RUN with BAD_ORDER, and nothing else happens. -/
def Obligations.MatrixOfRequests : Prop :=
  (∀ (u : State) (r : Request), u.ctl.mode = .selftest → r.hdr.addressing = .direct →
    r.hdr.command.unused = false → (r.hdr.command.hasBlock = true → dataCheck r.words = r.check) →
    (r.hdr.command.hasBlock = true → u.link.mem.recognises r = false) →
    (r.hdr.command = .read → 0x03F < r.hdr.address.toNat + max 1 r.hdr.count.toNat - 1) →
    u.verdict r = .defer 15) ∧
  (∀ (u : State) (r : Request), r.hdr.addressing = .direct → r.hdr.command.hasBlock = true →
    dataCheck r.words = r.check → u.link.mem.recognises r = false →
    (u.ctl.mode = .run → r.hdr.command = .setId → u.verdict r = .refuse .wrongState) ∧
    (u.ctl.mode = .run → r.orders .startRun ∨ r.orders .enterQuiet ∨ r.orders .runSelftest →
      u.verdict r = if u.ctl.stop = none then .refuse .wrongState else .defer 15) ∧
    (u.ctl.mode = .setup → r.orders .stopRun → u.verdict r = .refuse .wrongState) ∧
    (u.ctl.mode = .setup → r.orders .startRun → u.ident.nodeId = 0 → u.verdict r = .refuse .wrongState)) ∧
  (∀ (u : State) (r : Request), r.hdr.addressing = .chainHead → r.hdr.command.unused = false →
    (r.hdr.command.hasBlock = true → dataCheck r.words = r.check) → r.hdr.command ≠ .setId →
    (r.hdr.command = .read → 0x003 < r.hdr.address.toNat + max 1 r.hdr.count.toNat - 1) →
    u.verdict r = .refuse .unnamed) ∧
  ((∀ (s : State) (h : Header), s.hears ⟨h, [], 0⟩ → h.command.unused = true →
    h.addressing = .direct ∨ h.addressing = .chainHead →
    exec .unusedCommand s = .next (s.atPoint.answering s.atPoint ⟨h, [], 0⟩ (.refuse .badCommand))) ∧
  ∀ (s : State) (r : Request), s.hearsFresh r → r.hdr.command = .order →
    Order.ofCode r.hdr.address.toNat = none → s.atPoint.ctl.mode = .setup ∨ s.atPoint.ctl.mode = .run →
    exec (.unknownOrder r.block) s = .next (s.atPoint.answering s.atPoint r (.refuse .badOrder)))

/-- R16 steps 10 to 13 of a DIRECT request that passes the steps before: BAD_COUNT for a COUNT outside the range of the
command (R6, R133); BAD_ADDRESS for words that are not all assigned or not all in one region (R171); BAD_SPAN for store
words in two logical pages (R121); READ_ONLY for a WRITE that touches a read-only word (R172); BAD_ENABLES for partial
enables outside the store (R9); BAD_VALUE for a field outside its range (R14, R69, R118, R131, R144). The map of the words
and their access types is that of Table 11-1. -/
def Obligations.CountsAddressesAndValuesChecked : Prop :=
  (∀ a : Nat,
    let within : Nat → Nat → Prop := fun lo hi => lo ≤ a ∧ a ≤ hi
    (regionOf a = some .registers ↔ within 0x000 0x006 ∨ within 0x008 0x00E ∨ within 0x010 0x014 ∨
      within 0x018 0x01C ∨ within 0x020 0x023 ∨ within 0x028 0x02A ∨ within 0x030 0x033) ∧
    (regionOf a = some .eventWindow ↔ within 0x040 0x05F) ∧
    (regionOf a = some .channelTable ↔ within 0x100 0x11F) ∧
    (regionOf a = some .latestSamples ↔ within 0x140 0x161) ∧
    (regionOf a = some .supersedeCounts ↔ within 0x180 0x19F) ∧
    (regionOf a = some .activeWindow ↔ within 0x200 0x2FF) ∧
    (regionOf a = some .stagedWindow ↔ within 0x300 0x3FF) ∧ (regionOf a = some .store ↔ within 0x4000 0x7FFF)) ∧
  ∀ (u : State) (r : Request), u.ctl.mode = .setup ∨ u.ctl.mode = .run → r.hdr.addressing = .direct →
    (r.hdr.command.hasBlock = true → dataCheck r.words = r.check ∧ u.link.mem.recognises r = false) →
    let a := r.hdr.address.toNat
    let n := r.hdr.count.toNat
    let words := r.hdr.command = .read ∨ r.hdr.command = .write
    let counted := words ∧ 1 ≤ n ∧ n ≤ 64
    let oneRegion := counted ∧ regionOf a ≠ none ∧ ∀ k < n, regionOf (a + k) = regionOf a
    let stored := regionOf a = some .store
    let readOnly : Nat → Prop := fun x =>
      x ≤ 0x003 ∨ x = 0x006 ∨ (0x008 ≤ x ∧ x ≤ 0x00C) ∨ x = 0x01A ∨ x = 0x01C ∨ x = 0x020 ∨
        (0x028 ≤ x ∧ x ≤ 0x02A) ∨ (0x040 ≤ x ∧ x ≤ 0x05F) ∨ (0x140 ≤ x ∧ x ≤ 0x161)
    let writable := oneRegion ∧ r.hdr.command = .write ∧ ¬stored ∧ ∀ k < n, ¬readOnly (a + k)
    let whole := r.hdr.firstEn = 0xF ∧ r.hdr.lastEn = 0xF
    let outOfRange : Nat → Word → Prop := fun x w =>
      (x = 0x004 ∧ ¬(2 ≤ (w.extractLsb' 0 4).toNat ∧ (w.extractLsb' 0 4).toNat ≤ 9 ∧
          1 ≤ (w.extractLsb' 4 4).toNat ∧ (w.extractLsb' 4 4).toNat ≤ 8)) ∨
        (x = 0x018 ∧ (128 < (w.extractLsb' 16 8).toNat ∨ ((w.extractLsb' 16 8).toNat ≠ 0 ∧
          128 < (w.extractLsb' 8 7).toNat + (w.extractLsb' 16 8).toNat))) ∨
        (x = 0x019 ∧ 8192 < (w.extractLsb' 0 14).toNat) ∨ (x = 0x023 ∧ 16 < (w.extractLsb' 0 5).toNat) ∨
        (0x100 ≤ x ∧ x ≤ 0x11F ∧ ¬(1 ≤ (w.extractLsb' 8 5).toNat ∧ (w.extractLsb' 8 5).toNat ≤ 16))
    (words → n = 0 ∨ 64 < n → u.verdict r = .refuse .badCount) ∧
    (r.hdr.command = .drain → n = 0 ∨ (if u.stl.stamp = true then 15 else 31) < n →
      u.verdict r = .refuse .badCount) ∧
    (r.hdr.command = .setId → u.ctl.mode = .setup → n ≠ 1 → u.verdict r = .refuse .badCount) ∧
    (r.hdr.command = .order → Order.ofCode a ≠ none → u.stepLegal r.hdr = none → n ≠ 1 →
      u.verdict r = .refuse .badCount) ∧
    (counted → (∃ k < n, regionOf (a + k) = none ∨ regionOf (a + k) ≠ regionOf a) →
      u.verdict r = .refuse .badAddress) ∧
    (oneRegion → stored → 128 < a % 128 + n → u.verdict r = .refuse .badSpan) ∧
    (oneRegion → r.hdr.command = .write → (∃ k < n, readOnly (a + k)) → u.verdict r = .refuse .readOnly) ∧
    (writable → ¬whole → u.verdict r = .refuse .badEnables) ∧
    (writable → whole → r.words.length = n →
      (∃ k, ∃ h : k < r.words.length, outOfRange (a + k) r.words[k]) → u.verdict r = .refuse .badValue)

/-! ## Requests: READ -/

/-- R10, R174: a READ inside one region outside the store is accepted in SETUP and RUN, in SELFTEST inside
000h-03Fh, and by CHAIN_HEAD addressing inside 000h-003h; it changes nothing, and returns the words as they stand,
in ascending order, with their check. -/
def Obligations.ReadReturnsSnapshot : Prop :=
  ∀ (s : State) (h : Header), s.hears ⟨h, [], 0⟩ → h.command = .read →
    h.addressing = .direct ∨ (h.addressing = .chainHead ∧ h.address.toNat + h.count.toNat ≤ 0x004) →
    1 ≤ h.count.toNat → h.count.toNat ≤ 64 → regionOf h.address.toNat ≠ none →
    regionOf h.address.toNat ≠ some .store →
    (∀ k < h.count.toNat, regionOf (h.address.toNat + k) = regionOf h.address.toNat) →
    let u := s.atPoint
    u.ctl.mode.frames = true → (u.ctl.mode = .selftest → h.address.toNat + h.count.toNat ≤ 0x040) →
    exec .read s = .next (u.answering u ⟨h, [], 0⟩ .accept) ∧
      (u.replyFor u h .accept).data =
        some (checkedOctets ((List.range h.count.toNat).map fun k => u.readWord (h.address.toNat + k)))

/-- R121, R122: a READ of the store inside one logical page in SETUP or RUN is accepted when the page is open, and
returns the words; otherwise it is deferred with hint 2 and starts the open, unless the bank is OPENING or claimed by
the log writer. -/
def Obligations.StoreReadNeedsOpenPage : Prop :=
  ∀ (s : State) (h : Header), s.hears ⟨h, [], 0⟩ → h.command = .read → h.addressing = .direct →
    1 ≤ h.count.toNat → h.count.toNat ≤ 64 → 0x4000 ≤ h.address.toNat → h.address.toNat ≤ 0x7FFF →
    h.address.toNat % 128 + h.count.toNat ≤ 128 →
    let u := s.atPoint
    let p := (h.address.toNat - 0x4000) / 128
    let bank := u.stl.bankOf p
    u.ctl.mode = .setup ∨ u.ctl.mode = .run →
    (u.stl.bank bank = .opened (u.stl.physicalPage p) →
      exec .storeRead s = .next (u.answering u ⟨h, [], 0⟩ .accept) ∧
        (u.replyFor u h .accept).data =
          some (checkedOctets
            ((List.range h.count.toNat).map fun k => u.stl.readWord (h.address.toNat + k)))) ∧
    (u.stl.bank bank ≠ .opened (u.stl.physicalPage p) →
      (u.stl.bank bank).isOpening = true ∨ u.stl.claims bank = true →
      exec .storeRead s = .next (u.answering u ⟨h, [], 0⟩ (.defer 2))) ∧
    (u.stl.bank bank ≠ .opened (u.stl.physicalPage p) →
      (u.stl.bank bank).isOpening = false → u.stl.claims bank = false →
      exec .storeRead s =
        .next (u.answering { u with stl := u.stl.setBank bank (.opening (u.stl.physicalPage p) 20) }
          ⟨h, [], 0⟩ (.defer 2)))

/-- R117: the logical page, bank, physical page and offset of every store word under both maps; no two logical words share
a physical word; every access uses the map that holds; a change of MAP moves no data. -/
def Obligations.StoreMapReachesEveryWord : Prop :=
  (∀ (t : Store) (a : Nat), 0x4000 ≤ a → a ≤ 0x7FFF →
    let p := (a - 0x4000) / 128
    p ≤ 127 ∧
      (t.cfg.getLsbD 0 = false →
        t.bankOf p = (if p / 64 = 0 then .bank0 else .bank1) ∧ t.physicalPage p = p % 64) ∧
      (t.cfg.getLsbD 0 = true →
        t.bankOf p = (if p % 2 = 0 then .bank0 else .bank1) ∧ t.physicalPage p = p / 2) ∧
      t.physicalWord a =
        ((if t.bankOf p = .bank0 then 0 else 64) + t.physicalPage p) * 128 + a % 128 ∧
      t.physicalWord a < 16384 ∧
      (∀ b, 0x4000 ≤ b → b ≤ 0x7FFF → t.physicalWord a = t.physicalWord b → a = b) ∧
      t.readWord a = Memory.readWord t.mem (t.physicalWord a) ∧
      ∀ en w, (t.writeWord a en w).mem = Memory.writeWord t.mem (t.physicalWord a) en w) ∧
  ∀ (s : State) (w : Word),
    (s.writeWord 0x018 w).stl.mem = s.stl.mem ∧ (s.writeWord 0x018 w).stl.bank0 = s.stl.bank0 ∧
      (s.writeWord 0x018 w).stl.bank1 = s.stl.bank1

/-- R21, R26, R28, R29, R53, R83, R88, R110, R115, R146, R157: what the status words of the link, the node, the event unit,
the self-test, the lane and the tables show, field by field, with the codes of the manual. R14, R65, R68, R114, R118,
R127, R131, R147, R162: what the registers with stored fields and the counters read as. -/
def Obligations.StatusWordsShowTheirFields : Prop :=
  ([Mode.reset, .selftest, .setup, .run, .quiet].map Mode.code = [0, 1, 2, 3, 4] ∧
    [RunSub.none, .awaitFrame, .walking, .frameDone].map RunSub.code = [0, 1, 2, 3] ∧
    [ResetCause.powerPin, .link, .soft].map ResetCause.code = [1, 2, 3] ∧
    [CheckResult.none, .valid, .noEnd, .badChannel, .channelDisabled].map CheckResult.code = [0, 1, 2, 3, 4] ∧
    [LaneFault.none, .contentionLost, .scheduleShort, .scheduleLong].map LaneFault.code = [0, 1, 2, 3] ∧
    [Phase.idle, .s1, .s2, .s3, .s4, .s5, .s6].map Phase.code = [0, 1, 2, 3, 4, 5, 6]) ∧
  (∀ s : State,
    s.readWord 0x004 = s.link.cfg ∧ s.readWord 0x00D = s.lane.watchCfg ∧ s.readWord 0x00E = s.cap.span ∧
      s.readWord 0x010 = s.cap.feedCfg ∧ s.readWord 0x018 = s.stl.cfg ∧ s.readWord 0x019 = s.stl.watermark ∧
      s.readWord 0x01B = s.stl.overwritten ++ s.stl.dropped ∧ s.readWord 0x01C = s.stl.serial ∧
      s.readWord 0x021 = s.evu.enable ∧ s.readWord 0x022 = s.evu.alert ∧
      ∀ f < 4, s.readWord (0x011 + f) = 0#16 ++ (s.cap.feed f).unclaimed ++ (s.cap.feed f).parityErrors) ∧
  (∀ s : State,
    s.readWord 0x000 = 0x4B71A302 ∧ s.readWord 0x001 = Config.serial ∧
      s.readWord 0x002 = s.ident.nodeId.setWidth 32 ∧
      (s.readWord 0x003).extractLsb' 0 3 = BitVec.ofNat 3 s.ctl.mode.code ∧
      (s.readWord 0x003).getLsbD 3 = false ∧
      (s.readWord 0x003).extractLsb' 4 2 = BitVec.ofNat 2 s.lane.sub.code ∧
      ((s.readWord 0x003).getLsbD 6 = true ↔ s.ident.nodeId ≠ 0) ∧
      (s.readWord 0x003).getLsbD 7 = s.ident.chi ∧
      ((s.readWord 0x003).getLsbD 8 = true ↔ s.ident.chi = true ∧ s.ident.nodeId ≠ 0) ∧
      (s.readWord 0x003).getLsbD 9 = s.ctl.stop.isSome ∧
      ((s.readWord 0x003).getLsbD 10 = true ↔ s.ctl.stop = some .atFrame) ∧
      (s.readWord 0x003).getLsbD 11 = s.ctl.testPassed ∧
      (s.readWord 0x003).extractLsb' 12 2 = BitVec.ofNat 2 s.ctl.resetCause.code ∧
      (s.readWord 0x003).extractLsb' 14 18 = 0 ∧
      s.readWord 0x005 = s.link.bcastMissed ++ s.link.clashes ++ s.link.dataErrors ++ s.link.headerErrors ∧
      (s.readWord 0x006).extractLsb' 0 4 = s.link.mem.seq ∧ (s.readWord 0x006).extractLsb' 4 4 = 0 ∧
      (s.readWord 0x006).getLsbD 8 = s.link.mem.valid ∧ (s.readWord 0x006).extractLsb' 9 23 = 0 ∧
      (s.evu.queue.length ≤ 16 → (s.readWord 0x020).extractLsb' 0 5 = BitVec.ofNat 5 s.evu.queue.length) ∧
      (s.readWord 0x020).extractLsb' 5 3 = 0 ∧ (s.readWord 0x020).extractLsb' 8 8 = s.evu.lost ∧
      (s.readWord 0x020).getLsbD 16 = s.evu.attention ∧ (s.readWord 0x020).extractLsb' 17 7 = 0 ∧
      (s.readWord 0x020).extractLsb' 24 8 = s.evu.serial ∧ s.readWord 0x023 = 0 ∧
      s.readWord 0x028 = s.ste.signature ∧ (s.readWord 0x029).extractLsb' 0 6 = s.ste.fails ∧
      (s.readWord 0x029).extractLsb' 6 2 = 0 ∧
      (s.readWord 0x029).extractLsb' 8 3 = BitVec.ofNat 3 s.ste.phase.code ∧
      (s.readWord 0x029).extractLsb' 11 21 = 0 ∧
      s.readWord 0x02A = s.ste.address.setWidth 32) ∧
  (∀ s : State,
    (s.readWord 0x008).getLsbD 0 = s.lane.muted ∧ (s.readWord 0x008).getLsbD 1 = s.lane.unmute ∧
      (s.readWord 0x008).getLsbD 2 = s.sct.commit.isSome ∧
      ((s.readWord 0x008).getLsbD 3 = true ↔
        ∃ c, s.sct.commit = some c ∧ c.targeted = true ∧ c.late = false) ∧
      (s.readWord 0x008).extractLsb' 4 2 = BitVec.ofNat 2 s.lane.sub.code ∧
      (s.readWord 0x008).getLsbD 6 = s.lane.markerSeen ∧ (s.readWord 0x008).getLsbD 7 = s.lane.watchExpired ∧
      (s.readWord 0x008).extractLsb' 8 9 =
        (if s.ste.phase = .s1 ∨ s.ste.phase = .s2 then 0 else BitVec.ofNat 9 s.sct.active.length) ∧
      (s.readWord 0x008).extractLsb' 17 9 = BitVec.ofNat 9 s.lane.slotIndex ∧
      (s.readWord 0x008).getLsbD 26 = s.lane.inSlot ∧ (s.readWord 0x008).getLsbD 27 = s.lane.shortSeen ∧
      (s.readWord 0x008).extractLsb' 28 4 = 0 ∧
      (s.readWord 0x009).extractLsb' 0 2 = BitVec.ofNat 2 s.lane.fault.kind.code ∧
      (s.readWord 0x009).extractLsb' 2 3 = BitVec.ofNat 3 s.lane.fault.lostBit ∧
      (s.readWord 0x009).extractLsb' 5 3 = 0 ∧
      (s.readWord 0x009).extractLsb' 8 9 = BitVec.ofNat 9 s.lane.fault.slot ∧
      (s.readWord 0x009).extractLsb' 17 7 = 0 ∧
      (s.readWord 0x009).extractLsb' 24 8 = s.lane.faultCount ∧
      s.readWord 0x00A = s.lane.frame ++ s.lane.fault.frame ∧
      s.readWord 0x00B =
        (match s.sct.commit with
          | some c => 0#13 ++ BitVec.ofBool c.late ++ 1#1 ++ BitVec.ofBool c.targeted ++ c.target
          | none => 0) ∧
      (s.readWord 0x00C).extractLsb' 0 3 = BitVec.ofNat 3 s.sct.check.result.code ∧
      (s.readWord 0x00C).getLsbD 3 = s.sct.check.ofActive ∧
      (s.readWord 0x00C).extractLsb' 4 4 = 0 ∧
      (s.readWord 0x00C).extractLsb' 8 8 = BitVec.ofNat 8 s.sct.check.index ∧
      (s.readWord 0x00C).extractLsb' 16 9 = BitVec.ofNat 9 s.sct.check.length ∧
      (s.readWord 0x00C).extractLsb' 25 7 = 0)

/-- R74, R75, R76, R79, R130, R143: what the windows and LOG_STATUS show: event records oldest first and 0 beyond the
depth, channel records, latest samples and references, supersede counts, the two tables by role. -/
def Obligations.WindowsShowTheirState : Prop :=
  ∀ s : State,
    (∀ j, (h : j < s.evu.queue.length) → j < 16 →
      s.readWord (0x040 + 2 * j) =
        s.evu.queue[j].serial ++ 0#3 ++ BitVec.ofNat 5 s.evu.queue[j].kind.code ++ s.evu.queue[j].detail ∧
      s.readWord (0x041 + 2 * j) = 0#16 ++ s.evu.queue[j].frame) ∧
    (∀ j < 16, s.evu.queue.length ≤ j → s.readWord (0x040 + 2 * j) = 0 ∧ s.readWord (0x041 + 2 * j) = 0) ∧
    (∀ c < 32,
      s.readWord (0x100 + c) = (s.cap.channel c).record ∧
      s.readWord (0x140 + c) =
        0#1 ++ BitVec.ofBool (s.cap.channel c).sample.overRange ++ BitVec.ofBool (s.cap.channel c).sample.noData ++
          BitVec.ofBool (s.cap.channel c).sample.fresh ++ (s.cap.channel c).sample.seq ++
          (s.cap.channel c).sample.value ∧
      s.readWord (0x180 + c) = 0#24 ++ (s.cap.channel c).superseded) ∧
    s.readWord 0x160 = 8#4 ++ s.lane.frame.extractLsb' 0 8 ++ 0#20 ∧
    s.readWord 0x161 = 8#4 ++ s.lane.frame.extractLsb' 0 8 ++ s.cap.span.extractLsb' 0 20 ∧
    (∀ k < 256, s.readWord (0x200 + k) = s.sct.active.entry k ∧ s.readWord (0x300 + k) = s.sct.staged.entry k) ∧
    (s.readWord 0x01A).extractLsb' 0 14 = BitVec.ofNat 14 s.stl.count ∧
    (s.readWord 0x01A).extractLsb' 14 2 = 0 ∧ (s.readWord 0x01A).extractLsb' 21 3 = 0 ∧
    (s.readWord 0x01A).getLsbD 31 = false ∧
    (s.readWord 0x01A).extractLsb' 16 5 = BitVec.ofNat 5 s.stl.inFlight ∧
    (s.readWord 0x01A).getLsbD 24 = s.stl.full ∧
    (s.readWord 0x01A).extractLsb' 25 4 = BitVec.ofNat 4 s.stl.queue.length ∧
    (s.readWord 0x01A).getLsbD 29 = s.stl.disarmed ∧ (s.readWord 0x01A).getLsbD 30 = s.link.drain.valid

/-! ## Requests: WRITE -/

/-- R10, R19, R172, R173: an executed DIRECT WRITE outside the store writes the words it covers in ascending order, loads the
reply memory and owes the ACCEPT token. Each write row that the WRITE covers a word of stands for the whole WRITE, so that
every one of these rows does the same (log entry 6); the octets still to come pass first (log entry 3). -/
def Obligations.WriteExecutesItsWordsInOrder : Prop :=
  (∀ (s : State) (a : Nat) (w : Word) (ws : List Word),
    s.writeFrom a [] = s ∧ s.writeFrom a (w :: ws) = (s.writeWord a w).writeFrom (a + 1) ws) ∧
  ∀ (s : State) (r : Request), s.hearsFresh r → s.atPoint.WriteFits r →
    let u := s.atPoint
    let done : Result := .next (u.executed (u.writeFrom r.hdr.address.toNat r.words) r)
    let covers : Nat → Nat → Prop := fun lo hi =>
      r.hdr.address.toNat ≤ hi ∧ lo < r.hdr.address.toNat + r.hdr.count.toNat
    (covers 0x004 0x004 ∨ covers 0x00E 0x00E ∨ covers 0x010 0x010 ∨ covers 0x019 0x019 ∨
        covers 0x021 0x021 ∨ covers 0x030 0x033 → exec (.registerWrite r.block) s = done) ∧
      (covers 0x005 0x005 → exec (.linkStatusClear r.block) s = done) ∧
      (covers 0x011 0x014 → exec (.feedStatusClear r.block) s = done) ∧
      (covers 0x100 0x11F → exec (.channelRecordWrite r.block) s = done) ∧
      (covers 0x180 0x19F → exec (.supersedeClear r.block) s = done) ∧
      (covers 0x200 0x2FF → exec (.activeTableWrite r.block) s = done) ∧
      (covers 0x300 0x3FF → exec (.stagedTableWrite r.block) s = done) ∧
      (covers 0x00D 0x00D → exec (.frameWatchWrite r.block) s = done) ∧
      (covers 0x018 0x018 → exec (.storeCfgWrite r.block) s = done) ∧
      (covers 0x01B 0x01B → exec (.logLossClear r.block) s = done) ∧
      (covers 0x023 0x023 → exec (.eventRetire r.block) s = done) ∧
      (covers 0x022 0x022 → exec (.alertEnableWrite r.block) s = done) ∧
      (covers 0x023 0x023 → (r.words.getD (0x023 - r.hdr.address.toNat) 0).getLsbD 8 = true →
        exec (.clearLost r.block) s = done)

/-- R14, R26, R65, R68, R70, R76, R114, R118, R131, R138, R144, R145, R147, R162, R170, R172: what a written word does in
every writable register, channel record and supersede count, and that it changes nothing else. Bits that carry no field
are stored as 0; a counter is cleared when its written field is 0. -/
def Obligations.WrittenWordsAct : Prop :=
  (∀ (s : State) (w : Word),
    s.writeWord 0x004 w = { s with link := { s.link with cfg := 0#24 ++ w.extractLsb' 0 8 } } ∧
      s.writeWord 0x00E w = { s with cap := { s.cap with span := 0#12 ++ w.extractLsb' 0 20 } } ∧
      s.writeWord 0x010 w = { s with cap := { s.cap with feedCfg := 0#28 ++ w.extractLsb' 0 4 } } ∧
      s.writeWord 0x019 w = { s with stl := { s.stl with watermark := 0#18 ++ w.extractLsb' 0 14 } } ∧
      s.writeWord 0x021 w = { s with evu := { s.evu with enable := 0#13 ++ w.extractLsb' 1 18 ++ 0#1 } } ∧
      s.writeWord 0x022 w = { s with evu := { s.evu with alert := 0#13 ++ w.extractLsb' 0 19 } } ∧
      ∀ k, (h : k < 4) →
        s.writeWord (0x030 + k) w = { s with user := s.user.set k w } ∧
          (s.writeWord (0x030 + k) w).readWord (0x030 + k) = w) ∧
  (∀ (s : State) (w : Word),
    (s.writeWord 0x005 w =
      { s with
        link := { s.link with
          headerErrors := if w.extractLsb' 0 8 = 0 then 0 else s.link.headerErrors
          dataErrors := if w.extractLsb' 8 8 = 0 then 0 else s.link.dataErrors
          clashes := if w.extractLsb' 16 8 = 0 then 0 else s.link.clashes
          bcastMissed := if w.extractLsb' 24 8 = 0 then 0 else s.link.bcastMissed } }) ∧
    (s.writeWord 0x01B w =
      { s with
        stl := { s.stl with
          dropped := if w.extractLsb' 0 16 = 0 then 0 else s.stl.dropped
          overwritten := if w.extractLsb' 16 16 = 0 then 0 else s.stl.overwritten } }) ∧
    (∀ f, (h : f < 4) →
      s.writeWord (0x011 + f) w =
        { s with
          cap := { s.cap with
            feeds := s.cap.feeds.set f
              { s.cap.feeds[f] with
                parityErrors := if w.extractLsb' 0 8 = 0 then 0 else s.cap.feeds[f].parityErrors
                unclaimed := if w.extractLsb' 8 8 = 0 then 0 else s.cap.feeds[f].unclaimed } } }) ∧
    ∀ c, (h : c < 32) →
      s.writeWord (0x180 + c) w =
        { s with
          cap := { s.cap with
            channels := s.cap.channels.set c
              { s.cap.channels[c] with
                superseded := if w.extractLsb' 0 8 = 0 then 0 else s.cap.channels[c].superseded } } }) ∧
  (∀ (s : State) (w : Word),
    (s.writeWord 0x00D w =
      { s with
        lane := { s.lane with
          watchCfg := 0#24 ++ w.extractLsb' 0 8, watchCount := 0, watchExpired := false } }) ∧
    (s.writeWord 0x018 w =
      { s with
        stl := { s.stl with
          cfg := 0#8 ++ w.extractLsb' 16 8 ++ 0#1 ++ w.extractLsb' 8 7 ++ 0#5 ++ w.extractLsb' 0 3
          head := 0, tail := 0, count := 0, inFlight := 0, dropped := 0, overwritten := 0, queue := []
          disarmed := false }
        link := { s.link with drain := { s.link.drain with valid := false } } }) ∧
    (s.writeWord 0x023 w =
      { s with
        evu := { s.evu with
          queue := s.evu.queue.drop (w.extractLsb' 0 5).toNat
          lost := if w.getLsbD 8 = true then 0 else s.evu.lost } }) ∧
    ∀ c, (h : c < 32) →
      s.writeWord (0x100 + c) w =
        { s with
          cap := { s.cap with
            channels := s.cap.channels.set c
              { s.cap.channels[c] with
                record := 0#19 ++ w.extractLsb' 8 5 ++ 0#6 ++ w.extractLsb' 0 2
                decim := 0 } } })

/-- R79, R80, R85, R86: a word written to a table window becomes the entry of the table in that role, every bit as
written; no other entry, role, commit or TABLE_CHECK changes, and no validation runs. -/
def Obligations.TableWindowsWriteByRole : Prop :=
  ∀ (s : State) (w : Word) (k : Nat), k < 256 →
    (∃ sct, s.writeWord (0x200 + k) w = { s with sct := sct } ∧ sct.firstActive = s.sct.firstActive ∧
      sct.commit = s.sct.commit ∧ sct.check = s.sct.check ∧ sct.staged = s.sct.staged ∧
      sct.active.entry k = w ∧ ∀ j, j ≠ k → sct.active.entry j = s.sct.active.entry j) ∧
    (∃ sct, s.writeWord (0x300 + k) w = { s with sct := sct } ∧ sct.firstActive = s.sct.firstActive ∧
      sct.commit = s.sct.commit ∧ sct.check = s.sct.check ∧ sct.active = s.sct.active ∧
      sct.staged.entry k = w ∧ ∀ j, j ≠ k → sct.staged.entry j = s.sct.staged.entry j)

/-- R9, R121: a DIRECT WRITE of the store inside one open page that is no log page is accepted: each enabled byte takes
its new value, each disabled byte and every byte of every other word keeps its value. -/
def Obligations.StoreWriteChangesEnabledBytes : Prop :=
  ∀ (s : State) (r : Request), s.hearsFresh r → r.hdr.command = .write → 1 ≤ r.hdr.count.toNat → r.hdr.count.toNat ≤ 64 →
    0x4000 ≤ r.hdr.address.toNat → r.hdr.address.toNat ≤ 0x7FFF →
    r.hdr.address.toNat % 128 + r.hdr.count.toNat ≤ 128 →
    let u := s.atPoint
    let a := r.hdr.address.toNat
    let n := r.hdr.count.toNat
    let p := (a - 0x4000) / 128
    u.StoreCanonical → u.ctl.mode = .setup ∨ u.ctl.mode = .run →
    ¬(u.stl.logFirst ≤ p ∧ p < u.stl.logFirst + u.stl.logPages) →
    u.stl.bank (u.stl.bankOf p) = .opened (u.stl.physicalPage p) →
    ∃ m, exec (.storeWrite r.block) s =
        .next (u.executed { u with stl := { u.stl with mem := m } } r) ∧
      m.wf = true ∧
      (∀ k, (hk : k < r.words.length) → ∀ j < 4,
        Memory.read m (4 * u.stl.physicalWord (a + k) + j) =
          if (k = 0 → r.hdr.firstEn.getLsbD j = true) ∧ (k + 1 = n → r.hdr.lastEn.getLsbD j = true) then
            r.words[k].extractLsb' (8 * j) 8
          else Memory.read u.stl.mem (4 * u.stl.physicalWord (a + k) + j)) ∧
      ∀ b, (∀ k < n, b / 4 ≠ u.stl.physicalWord (a + k)) → Memory.read m b = Memory.read u.stl.mem b

/-- R121, R122: a DIRECT WRITE of the store is refused with LOCKED inside the log region; outside it, with its page not
open, it is deferred with hint 2 and starts the open under the conditions of R122; it writes no byte. R85, R86, R69,
R118: a DIRECT WRITE of the ACTIVE window, the channel table or STORE_CFG in RUN, and one of the STAGED window while a
commit is pending, is refused with LOCKED once it passes the earlier steps: a STORE_CFG whose fields are in range is
locked, one whose fields, or whose LOG_WATERMARK in the same WRITE, are not is refused with BAD_VALUE. -/
def Obligations.LockedOrClosedWritesStoreNothing : Prop :=
  (∀ (s : State) (r : Request), s.hearsFresh r → r.hdr.command = .write →
    1 ≤ r.hdr.count.toNat → r.hdr.count.toNat ≤ 64 →
    0x4000 ≤ r.hdr.address.toNat → r.hdr.address.toNat ≤ 0x7FFF →
    r.hdr.address.toNat % 128 + r.hdr.count.toNat ≤ 128 →
    let p := (r.hdr.address.toNat - 0x4000) / 128
    let u := s.atPoint
    let bank := u.stl.bankOf p
    u.ctl.mode = .setup ∨ u.ctl.mode = .run →
    (u.stl.logFirst ≤ p ∧ p < u.stl.logFirst + u.stl.logPages →
      exec (.storeWrite r.block) s = .next (u.answering u r (.refuse .locked))) ∧
    (¬(u.stl.logFirst ≤ p ∧ p < u.stl.logFirst + u.stl.logPages) →
      u.stl.bank bank ≠ .opened (u.stl.physicalPage p) →
      exec (.storeWrite r.block) s =
        .next (u.answering
          (if (u.stl.bank bank).isOpening = true ∨ u.stl.claims bank = true then u
          else { u with stl := u.stl.setBank bank (.opening (u.stl.physicalPage p) 20) }) r (.defer 2)))) ∧
  (∀ (u : State) (r : Request), u.ctl.mode = .setup ∨ u.ctl.mode = .run → r.hdr.addressing = .direct →
    r.hdr.command = .write → dataCheck r.words = r.check → u.link.mem.recognises r = false →
    1 ≤ r.hdr.count.toNat → r.hdr.count.toNat ≤ 64 → r.words.length = r.hdr.count.toNat →
    r.hdr.firstEn = 0xF → r.hdr.lastEn = 0xF →
    let a := r.hdr.address.toNat
    let n := r.hdr.count.toNat
    (u.ctl.mode = .run → 0x200 ≤ a → a + n ≤ 0x300 → u.verdict r = .refuse .locked) ∧
    (u.sct.commit.isSome = true → 0x300 ≤ a → a + n ≤ 0x400 → u.verdict r = .refuse .locked) ∧
    (u.ctl.mode = .run → 0x100 ≤ a → a + n ≤ 0x120 →
      (∀ w ∈ r.words, 1 ≤ (w.extractLsb' 8 5).toNat ∧ (w.extractLsb' 8 5).toNat ≤ 16) →
      u.verdict r = .refuse .locked) ∧
    let pagesOk : Word → Prop := fun w =>
      (w.extractLsb' 16 8).toNat ≤ 128 ∧
        ((w.extractLsb' 16 8).toNat = 0 ∨ (w.extractLsb' 8 7).toNat + (w.extractLsb' 16 8).toNat ≤ 128)
    (u.ctl.mode = .run → a = 0x018 → ∀ w, r.words = [w] →
      (pagesOk w → u.verdict r = .refuse .locked) ∧ (¬pagesOk w → u.verdict r = .refuse .badValue)) ∧
    (u.ctl.mode = .run → a = 0x018 → ∀ w0 w1, r.words = [w0, w1] →
      (pagesOk w0 → (w1.extractLsb' 0 14).toNat ≤ 8192 → u.verdict r = .refuse .locked) ∧
      (¬pagesOk w0 ∨ 8192 < (w1.extractLsb' 0 14).toNat → u.verdict r = .refuse .badValue)))

/-! ## Requests: SET_ID and DRAIN -/

/-- R33, R34, R35: a SET_ID in SETUP with COUNT 1 and a new ID of 1 to 63 sets NODE_ID to it. By DIRECT addressing it
loads the reply memory; by CHAIN_HEAD addressing it does not, and names the node even if CHI has fallen since the
header. A word of 0 or above 63 is refused with BAD_ID. -/
def Obligations.SetIdNamesTheNode : Prop :=
  ∀ (s : State) (r : Request) (w : Word), s.hears r → r.hdr.command = .setId → r.words = [w] →
    dataCheck r.words = r.check →
    let u := s.atPoint
    u.ctl.mode = .setup →
    r.hdr.addressing = .chainHead ∨ (r.hdr.addressing = .direct ∧ u.link.mem.recognises r = false) →
    let named : State := { u with ident := { u.ident with nodeId := w.extractLsb' 0 6 } }
    (1 ≤ w.toNat ∧ w.toNat ≤ 63 → r.hdr.addressing = .direct →
      exec (.setId r.block) s = .next (u.executed named r)) ∧
    (1 ≤ w.toNat ∧ w.toNat ≤ 63 → r.hdr.addressing = .chainHead →
      exec (.setId r.block) s = .next (u.answering named r .accept)) ∧
    (w.toNat = 0 ∨ 63 < w.toNat → exec (.setId r.block) s = .next (u.answering u r (.refuse .badId)))

/-- R30, R31: CHO is asserted exactly while CHI is and the node is named, and the node is the chain head exactly while CHI
is asserted and it is unnamed. A change of CHI changes the CHI level and nothing else. CHO moves only by a change of
CHI, a SET_ID that names the node, and a pin or link reset that clears NODE_ID; while RSTN is low and while a link reset
holds it is deasserted. -/
def Obligations.ChoFollowsChiAndName : Prop :=
  (∀ (level : Bool) (s : State),
    let u := s.reach 0
    exec (.chiChange level) s = .next { u with ident := { u.ident with chi := level } }) ∧
  (∀ i : Ident, (i.cho = true ↔ i.chi = true ∧ i.nodeId ≠ 0) ∧
    (i.chainHead = true ↔ i.chi = true ∧ i.nodeId = 0)) ∧
  (∀ s : State, s.ModesConsistent → s.ctl.rstnLow = true ∨ 64 ≤ s.link.beacons.toNat → s.ident.cho = false) ∧
  ∀ (c : Instr) (s t : State), exec c s = .next t → t.ident.cho ≠ s.ident.cho →
    (∃ level, c = .chiChange level) ∨
      (∃ b, c = .setId b ∧ s.ident.nodeId = 0 ∧ t.ident.nodeId ≠ 0) ∨
      (t.ident.nodeId = 0 ∧ t.ctl.mode = .reset ∧
        (t.ctl.resetCause = .powerPin ∨ t.ctl.resetCause = .link))

/-- R133, R134, R135: a DRAIN in SETUP or RUN with COUNT in range. A resend changes nothing and returns the in-flight
records again when the head's page is open. Any other DRAIN, when it has nothing to return or the page of the head
after retirement is open, retires the in-flight records and takes the least of COUNT, the records present and the
places left in the page. Otherwise it is deferred with hint 2, retires nothing and may start the open. R136: the drain
block: word 0 with N, REMAINING, FULL, OVERFLOW, STAMP and RESENT, then the words of the in-flight records in ring order
from the head. -/
def Obligations.DrainRetiresAndTakes : Prop :=
  (∀ (s : State) (h : Header), s.hears ⟨h, [], 0⟩ → h.command = .drain → h.addressing = .direct →
    let u := s.atPoint
    let t := u.stl
    u.ctl.mode = .setup ∨ u.ctl.mode = .run → 1 ≤ h.count.toNat →
    h.count.toNat ≤ (if t.stamp = true then 15 else 31) →
    let resend := u.link.drain.valid = true ∧ u.link.drain.seq = h.seq ∧ t.inFlight ≠ 0
    let head := t.placeAfter t.head t.inFlight
    let present := t.count - t.inFlight
    let n := if t.logPages = 0 then 0
      else min h.count.toNat (min present (t.placesPerPage - head % t.placesPerPage))
    let taken : State :=
      { u with
        stl := { t with head := head, count := present, inFlight := n }
        link := { u.link with drain := { valid := true, seq := h.seq } } }
    (resend → t.pageOpen (t.placePage t.head) = true →
      exec .drain s = .next (u.answering u ⟨h, [], 0⟩ .accept) ∧
        (u.replyFor u h .accept).data = some (checkedOctets (t.drainBlock true))) ∧
    (¬resend → t.logPages = 0 ∨ present = 0 ∨ t.pageOpen (t.placePage head) = true →
      exec .drain s = .next (u.answering taken ⟨h, [], 0⟩ .accept) ∧
        (u.replyFor taken h .accept).data = some (checkedOctets (taken.stl.drainBlock false))) ∧
    (∀ p, (resend ∧ p = t.placePage t.head) ∨
        (¬resend ∧ t.logPages ≠ 0 ∧ present ≠ 0 ∧ p = t.placePage head) →
      t.pageOpen p = false →
      exec .drain s =
        .next (u.answering
          (if (t.bank (t.bankOf p)).isOpening = true ∨ t.claims (t.bankOf p) = true then u
          else { u with stl := t.setBank (t.bankOf p) (.opening (t.physicalPage p) 20) })
          ⟨h, [], 0⟩ (.defer 2)))) ∧
  (∀ (t : Store) (resent : Bool), t.inFlight ≤ 31 → t.count - t.inFlight ≤ 8191 →
    ∃ w ws, t.drainBlock resent = w :: ws ∧ (w.extractLsb' 0 5).toNat = t.inFlight ∧ w.extractLsb' 5 3 = 0 ∧
      (w.extractLsb' 8 13).toNat = t.count - t.inFlight ∧ w.extractLsb' 21 3 = 0 ∧
      w.getLsbD 24 = t.full ∧ w.getLsbD 25 = t.overwrite ∧ w.getLsbD 26 = t.stamp ∧ w.getLsbD 27 = resent ∧
      w.extractLsb' 28 4 = 0 ∧ ws.length = t.inFlight * t.recordSize ∧
      ∀ i < t.inFlight, ∀ j < t.recordSize,
        ws[i * t.recordSize + j]? = some (t.readWord (t.placeAddress (t.placeAfter t.head i) + j)))

/-! ## Requests: orders -/

/-- R46, R98: START_RUN in SETUP on a named node. After a failed test it is refused with TEST_FAILED and TABLE_CHECK
keeps its value; with an invalid ACTIVE table it is refused with BAD_TABLE and TABLE_CHECK records why; otherwise the
node is in RUN in AWAIT_FRAME, its walk, mute and fault state cleared, the frame number kept. -/
def Obligations.StartRunEntersRun : Prop :=
  ∀ (s : State) (r : Request), s.hearsFresh r → r.orders .startRun →
    let u := s.atPoint
    u.ctl.mode = .setup → u.ident.nodeId ≠ 0 →
    let checked : State := { u with sct := { u.sct with check := u.validate true } }
    (u.ctl.testPassed = false →
      exec (.startRun r.block) s = .next (u.answering u r (.refuse .testFailed))) ∧
    (u.ctl.testPassed = true → (u.validate true).result ≠ .valid →
      exec (.startRun r.block) s = .next (u.answering checked r (.refuse .badTable))) ∧
    (u.ctl.testPassed = true → (u.validate true).result = .valid →
      exec (.startRun r.block) s =
        .next (u.executed
          { checked with
            ctl := { u.ctl with mode := .run, stop := none }
            lane := { u.lane with
              sub := .awaitFrame, slotIndex := 0, inSlot := false, markerSeen := false, shortSeen := false
              muted := false, unmute := false, faultCount := 0
              fault := { kind := .none, lostBit := 0, slot := 0, frame := 0 }
              watchCount := 0, watchExpired := false, drive := none } } r))

/-- R47, R111, R112: STOP_RUN in RUN. NOW is left pending only in WALKING with a slot in progress, and changes nothing
when a NOW is already pending; AT_FRAME takes place at once only in AWAIT_FRAME, changes nothing when a stop is
pending, and is left pending otherwise. Any other parameter is refused with BAD_VALUE. -/
def Obligations.StopRunStopsOrWaits : Prop :=
  ∀ (s : State) (r : Request), s.hearsFresh r → r.orders .stopRun →
    let u := s.atPoint
    u.ctl.mode = .run →
    let done : State → Result := fun x => .next (u.executed x r)
    let now : Prop := r.words = [0]
    let atFrame : Prop := r.words = [1]
    (now → u.ctl.stop = some .now → exec (.stopRun r.block) s = done u) ∧
    (now → u.ctl.stop ≠ some .now → u.lane.sub = .walking → u.lane.inSlot = true →
      exec (.stopRun r.block) s = done { u with ctl := { u.ctl with stop := some .now } }) ∧
    (now → u.ctl.stop ≠ some .now → u.lane.sub ≠ .walking ∨ u.lane.inSlot = false →
      exec (.stopRun r.block) s = done u.leaveRun) ∧
    (atFrame → u.ctl.stop ≠ none → exec (.stopRun r.block) s = done u) ∧
    (atFrame → u.ctl.stop = none → u.lane.sub = .awaitFrame → exec (.stopRun r.block) s = done u.leaveRun) ∧
    (atFrame → u.ctl.stop = none → u.lane.sub ≠ .awaitFrame →
      exec (.stopRun r.block) s = done { u with ctl := { u.ctl with stop := some .atFrame } }) ∧
    (∀ w, r.words = [w] → 1 < w.toNat →
      exec (.stopRun r.block) s = .next (u.answering u r (.refuse .badValue)))

/-- R47, R92, R113: when the node leaves RUN by a stop it is in SETUP with no stop pending, its walk state cleared and
its lines released; the frame number, the mute, the fault record and every sample are kept; a pending commit is
carried out, with the roles exchanged and TABLE_SWAPPED of cause STOP. -/
def Obligations.LeavingRunCarriesOutCommit : Prop :=
  ∀ s : State, ∃ sct evu,
    s.leaveRun =
      { s with
        ctl := { s.ctl with mode := .setup, stop := none }
        lane := { s.lane with
          sub := .none, slotIndex := 0, inSlot := false, markerSeen := false, shortSeen := false
          unmute := false, watchCount := 0, watchExpired := false, drive := none }
        sct := sct
        evu := evu } ∧
    (s.sct.commit = none → sct = s.sct ∧ evu = s.evu) ∧
    (s.sct.commit ≠ none →
      sct = { s.sct with firstActive := !s.sct.firstActive, commit := none } ∧
        sct.active = s.sct.staged ∧ sct.staged = s.sct.active ∧
        evu = s.evu.push (s.ctl.mode = .reset) .tableSwapped
          (4#8 ++ BitVec.ofNat 8 (s.sct.staged.length - 1)) s.lane.frame)

/-- R48, R51, R168, R165: ENTER_QUIET in SETUP and SOFT_RESET in SETUP or RUN: by DIRECT addressing the node stays as it
is and owes a reply at whose end QUIET or the soft reset comes; by broadcast it is in QUIET, or in RESET, at the
acceptance point. -/
def Obligations.QuietAndSoftResetWaitForReply : Prop :=
  ∀ (s : State) (r : Request), r.hdr.command = .order → dataCheck r.words = r.check → s.hears r →
    r.hdr.count = 1 →
    let u := s.atPoint
    (r.hdr.addressing = .direct → u.link.mem.recognises r = false →
      (Order.ofCode r.hdr.address.toNat = some .enterQuiet → u.ctl.mode = .setup →
        exec (.enterQuiet r.block) s = .next (u.executed u r) ∧
          (u.replyFor u r.hdr .accept).after = .enterQuiet) ∧
      (Order.ofCode r.hdr.address.toNat = some .softReset → u.ctl.mode = .setup ∨ u.ctl.mode = .run →
        exec (.softReset r.block) s = .next (u.executed u r) ∧
          (u.replyFor u r.hdr .accept).after = .softReset)) ∧
    (r.hdr.addressing = .broadcast →
      (Order.ofCode r.hdr.address.toNat = some .enterQuiet → u.ctl.mode = .setup →
        ∃ cap, exec (.enterQuiet r.block) s =
            .next { u with
              link := { u.link with rx := .listen }, ctl := { u.ctl with mode := .quiet }, cap := cap } ∧
          cap = { u.cap with channels := cap.channels } ∧
          ∀ c < 32, cap.channel c =
            { u.cap.channel c with sample := { (u.cap.channel c).sample with noData := true, fresh := false } }) ∧
      (Order.ofCode r.hdr.address.toNat = some .softReset → u.ctl.mode = .setup ∨ u.ctl.mode = .run →
        ∃ t, exec (.softReset r.block) s = .next t ∧ State.ResetTo .soft u t ∧ t.ctl.softStep = some 16))

/-- R52, R116, R151, R161: RUN_SELFTEST in SETUP begins a test: the drain memory, the append queue and the lane state of
R116 are cleared, the result words show a running test in S1, and everything else is kept. -/
def Obligations.RunSelftestBeginsTest : Prop :=
  ∀ (s : State) (r : Request), s.hearsFresh r → r.orders .runSelftest →
    let u := s.atPoint
    u.ctl.mode = .setup →
    exec (.runSelftest r.block) s =
      .next (u.executed
        { u with
          ctl := { u.ctl with mode := .selftest, testPassed := false }
          ste :=
            { signature := 0x7E570000, fails := 0, phase := .s1, address := 0, units := 0
              savedLinkCfg := u.link.cfg, storeFaults := [] }
          link := { u.link with drain := { u.link.drain with valid := false } }
          stl := { u.stl with queue := [], disarmed := false }
          lane := { u.lane with
            sub := .none, slotIndex := 0, inSlot := false, markerSeen := false, shortSeen := false
            muted := false, unmute := false, faultCount := 0
            fault := { kind := .none, lostBit := 0, slot := 0, frame := 0 }
            watchCount := 0, watchExpired := false, drive := none } } r)

/-- R82, R83: validation examines the entries from 0 upward and stops at the first failure or the first END: a driven entry
that names no channel fails with BAD_CHANNEL, one that names a disabled channel with CHANNEL_DISABLED; END passes with
the length; a table without failure and END fails with NO_END at 255. -/
def Obligations.ValidationFindsFirstFailure : Prop :=
  ∀ (s : State) (ofActive : Bool),
    let entry := fun k => Table.entry (if ofActive = true then s.sct.active else s.sct.staged) k
    let channel := fun k => ((entry k).extractLsb' 0 6).toNat
    let driven := fun k => (entry k).getLsbD 6 = true
    let isEnd := fun k => (entry k).getLsbD 7 = true
    let badChannel := fun k => driven k ∧ 34 ≤ channel k
    let disabled := fun k => driven k ∧ channel k ≤ 31 ∧ (s.cap.channel (channel k)).record.getLsbD 0 = false
    let examined := fun k => ∀ j < k, ¬badChannel j ∧ ¬disabled j ∧ ¬isEnd j
    (∀ k < 256, examined k → badChannel k → s.validate ofActive = ⟨.badChannel, ofActive, k, 0⟩) ∧
    (∀ k < 256, examined k → disabled k → s.validate ofActive = ⟨.channelDisabled, ofActive, k, 0⟩) ∧
    (∀ k < 256, examined k → ¬badChannel k → ¬disabled k → isEnd k →
      s.validate ofActive = ⟨.valid, ofActive, k, k + 1⟩) ∧
    (examined 256 → s.validate ofActive = ⟨.noEnd, ofActive, 255, 0⟩)

/-- R83, R87, R88, R90, R93: COMMIT. A second one while a commit is pending is refused with LOCKED and validates nothing;
an invalid STAGED table is refused with BAD_TABLE. In SETUP a valid one is swapped at once with cause NOW; in RUN it is
held, and a target that is not after the current frame makes it late and raises COMMIT_LATE. -/
def Obligations.CommitSwapsOrWaits : Prop :=
  ∀ (s : State) (r : Request) (w : Word), s.hearsFresh r → r.orders .commit → r.words = [w] →
    let u := s.atPoint
    u.ctl.mode = .setup ∨ u.ctl.mode = .run →
    let checked : State := { u with sct := { u.sct with check := u.validate false } }
    let target := w.extractLsb' 0 16
    let targeted := w.getLsbD 16
    let ahead := (target - u.lane.frame).toNat
    let held : Bool → State := fun late =>
      { checked with sct := { checked.sct with commit := some ⟨targeted, target, late⟩ } }
    (u.sct.commit ≠ none → exec (.commit r.block) s = .next (u.answering u r (.refuse .locked))) ∧
    (u.sct.commit = none → (u.validate false).result ≠ .valid →
      exec (.commit r.block) s = .next (u.answering checked r (.refuse .badTable))) ∧
    (u.sct.commit = none → (u.validate false).result = .valid → u.ctl.mode = .setup →
      exec (.commit r.block) s =
        .next (u.executed
          ({ checked with sct := { checked.sct with firstActive := !u.sct.firstActive } }.raise .tableSwapped
            (1#8 ++ BitVec.ofNat 8 (u.sct.staged.length - 1))) r)) ∧
    (u.sct.commit = none → (u.validate false).result = .valid → u.ctl.mode = .run →
      targeted = false ∨ (1 ≤ ahead ∧ ahead ≤ 32767) →
      exec (.commit r.block) s = .next (u.executed (held false) r)) ∧
    (u.sct.commit = none → (u.validate false).result = .valid → u.ctl.mode = .run →
      targeted = true → ahead = 0 ∨ 32768 ≤ ahead →
      exec (.commit r.block) s = .next (u.executed ((held true).raise .commitLate target) r))

/-- R91, R109, R138: DISCARD_STAGED ends a pending commit and nothing else; CLEAR_MUTE clears the fault record and
FAULT_COUNT, and in RUN arranges the unmute of a muted node; LOG_RESET empties the log, its loss counts, the append
queue and the drain memory, and keeps RECORD_SERIAL, the words and the banks. -/
def Obligations.DiscardClearMuteLogReset : Prop :=
  ∀ (s : State) (r : Request), s.hearsFresh r →
    let u := s.atPoint
    u.ctl.mode = .setup ∨ u.ctl.mode = .run →
    (r.orders .discardStaged →
      exec (.discardStaged r.block) s =
        .next (u.executed { u with sct := { u.sct with commit := none } } r)) ∧
    (r.orders .clearMute →
      exec (.clearMute r.block) s =
        .next (u.executed
          { u with
            lane := { u.lane with
              fault := { kind := .none, lostBit := 0, slot := 0, frame := 0 }
              faultCount := 0
              unmute := if u.ctl.mode = .run ∧ u.lane.muted = true then true else u.lane.unmute } } r)) ∧
    (r.orders .logReset →
      exec (.logReset r.block) s =
        .next (u.executed
          { u with
            stl := { u.stl with
              head := 0, tail := 0, count := 0, inFlight := 0, dropped := 0, overwritten := 0
              queue := [], disarmed := false }
            link := { u.link with drain := { u.link.drain with valid := false } } } r))

/-! ## Broadcasts -/

/-- R22, R23: what a node does with a broadcast in SETUP, RUN and SELFTEST: a failed data check is counted and raised;
in SELFTEST it is counted as missed; an unused command, a command or window not permitted, and what a DIRECT request
would be refused or deferred for, are ignored with their class; any other is executed like a DIRECT request, without a
reply and without the reply memory. R83: TABLE_CHECK is loaded only where a COMMIT or START_RUN has validated a table. -/
def Obligations.BroadcastsExecuteOrAreIgnored : Prop :=
  ∀ (u : State) (apply : State → State) (r : Request), r.hdr.addressing = .broadcast →
    u.ctl.mode.frames = true →
    let v := u.withRx .listen
    let direct : Request := { r with hdr := { r.hdr with addressing := .direct } }
    let forgetful : State := { u with link := { u.link with mem := { u.link.mem with valid := false } } }
    let order : Option Order := if r.hdr.command = .order then Order.ofCode r.hdr.address.toNat else none
    let intact := r.hdr.command.hasBlock = true → dataCheck r.words = r.check
    let permitted :=
      (r.hdr.command = .write ∧ r.hdr.address.toNat + max 1 r.hdr.count.toNat ≤ 0x120) ∨
        (r.hdr.command = .order ∧ Order.ofCode r.hdr.address.toNat ≠ some .runSelftest)
    (¬intact → u.judge apply r =
      { v with
        link := { v.link with
          dataErrors := if u.link.dataErrors = 255 then 255 else u.link.dataErrors + 1 } }.raise .dataCheck
        (0#5 ++ r.hdr.command.code ++ 0#2 ++ r.hdr.addressing.code ++ r.hdr.seq)) ∧
    (intact → u.ctl.mode = .selftest → u.judge apply r =
      { v with
        link := { v.link with
          bcastMissed := if u.link.bcastMissed = 255 then 255 else u.link.bcastMissed + 1 } }) ∧
    (intact → u.ctl.mode ≠ .selftest → r.hdr.command.unused = true →
      u.judge apply r = v.raise .broadcastIgnored 0x0201) ∧
    (intact → u.ctl.mode ≠ .selftest → r.hdr.command.unused = false → ¬permitted →
      u.judge apply r = v.raise .broadcastIgnored (1#8 ++ 0#5 ++ r.hdr.command.code)) ∧
    (intact → u.ctl.mode ≠ .selftest → permitted →
      (∀ why, forgetful.verdict direct = .refuse why → why ≠ .badTable →
        u.judge apply r = v.raise .broadcastIgnored (2#8 ++ BitVec.ofNat 8 why.code)) ∧
      (forgetful.verdict direct = .refuse .badTable →
        u.judge apply r =
          { v with
            sct := { v.sct with check := u.validate (decide (order ≠ some Order.commit)) } }.raise .broadcastIgnored
            0x020D) ∧
      (∀ hint, forgetful.verdict direct = .defer hint →
        u.judge apply r = v.raise .broadcastIgnored (3#8 ++ BitVec.ofNat 8 hint)) ∧
      (forgetful.verdict direct = .accept →
        (order ≠ some .commit → order ≠ some .startRun → u.judge apply r = apply v) ∧
        (order = some .commit ∨ order = some .startRun →
          u.judge apply r =
            apply { v with sct := { v.sct with check := u.validate (decide (order ≠ some Order.commit)) } })))

/-! ## Self-test -/

/-- R94, R151, R153 to R158: what each phase of a self-test that finds no failure leaves when it ends: S2 fills both tables
with the default schedule and S3 begins with the log emptied and the banks taken; S4 leaves every store word 0 and the
banks closed; S5 leaves the channels as after a reset but for their records; S6 completes the test: signature,
TEST_PASSED, TABLE_CHECK, SELFTEST_DONE, SETUP. The failures found are an operand of the command, an empty list meaning
none (log entry 10), and the units that the phase still lacks pass first, one by one (log entry 3). -/
def Obligations.PassingPhasesEnd : Prop :=
  (∀ s : State, s.ModesConsistent → s.link.rx = .listen → s.ste.phase ≠ .idle →
    s.ste.units < s.ste.phase.length →
    let u := s.before (.selftestPhaseEnd [])
    u.ste.phase = s.ste.phase ∧ u.ste.units = s.ste.phase.length ∧
      u.link.units = s.link.units + (s.ste.phase.length - s.ste.units)) ∧
  [Phase.s1, .s2, .s3, .s4, .s5, .s6].map Phase.length = [512, 4096, 24576, 26624, 1024, 256] ∧
  ∀ s : State,
    let u := s.before (.selftestPhaseEnd [])
    let runs : Phase → Prop := fun p => s.ste.phase = p ∧ u.ste.phase = p ∧ p.length ≤ u.ste.units
    let next : Phase → State := fun p => { u with ste := { u.ste with phase := p, units := 0 } }
    let filled : Table :=
      Vector.ofFn fun k : Fin 256 => if k.val < 31 then BitVec.ofNat 32 k.val else if k.val = 31 then 0x9F else 0
    (runs .s1 → exec (.selftestPhaseEnd []) s = .next (next .s2)) ∧
    (runs .s2 →
      exec (.selftestPhaseEnd []) s =
        .next { next .s3 with
          sct := { u.sct with first := filled, second := filled, firstActive := true, commit := none }
          stl := { u.stl with
            head := 0, tail := 0, count := 0, inFlight := 0, dropped := 0, overwritten := 0, serial := 0
            bank0 := .none, bank1 := .none } }) ∧
    (runs .s3 →
      exec (.selftestPhaseEnd []) s =
        .next { u with ste := { u.ste with phase := .s4, units := 0, storeFaults := [] } }) ∧
    (runs .s4 → u.ste.storeFaults = [] →
      exec (.selftestPhaseEnd []) s =
        .next { next .s5 with stl := { u.stl with mem := [], bank0 := .none, bank1 := .none } }) ∧
    (runs .s5 → ∃ cap,
      exec (.selftestPhaseEnd []) s = .next { next .s6 with cap := cap } ∧
        cap = { u.cap with channels := cap.channels } ∧
        ∀ c < 32, cap.channel c =
          { record := (u.cap.channel c).record, decim := 0, superseded := 0
            sample := { value := 0, seq := 0, fresh := false, noData := true, overRange := false } }) ∧
    (runs .s6 →
      let x := next .idle
      let v : State :=
        { x with
          ste := { x.ste with signature := if u.ste.fails = 0 then 0x7E570A55 else 0x7E57FA11 }
          ctl := { x.ctl with testPassed := u.ste.fails = 0 }
          sct := { x.sct with check := { result := .none, ofActive := false, index := 0, length := 0 } } }
      exec (.selftestPhaseEnd []) s =
        .next { v.raise .selftestDone (0#10 ++ u.ste.fails) with ctl := { v.ctl with mode := .setup } })

/-- R157, R158, R159: a phase that ends with failures sets its FAIL bit; the first such phase loads SELFTEST_ADDRESS with
its lowest failing address; a test with any FAIL bit set ends with the failed signature and TEST_PASSED clear. R152 to
R154: a register, record, table entry or store word that failed holds what its storage keeps, every other one what the
phase gives it: a register its value, a table entry the default schedule, a store word 0. The failures of a phase are an
operand of the command, each with the word that its storage keeps (log entry 10); of several the lowest address is kept,
for store words by the model's choice (log entry 27); the units that the phase still lacks pass first (log entry 3). -/
def Obligations.FailedPhasesAreRecorded : Prop :=
  ∀ (s : State) (failed : List (BitVec 20 × Word)),
    let u := s.before (.selftestPhaseEnd failed)
    let p := s.ste.phase
    let bad := failed.filter (fun f => p.tests f.1.toNat)
    let failedAt : Nat → Prop := fun a => ∃ f ∈ bad, f.1.toNat = a
    let fieldBits : Nat → Word := fun a =>
      if a = 0x004 ∨ a = 0x00D then 0xFF else if a = 0x00E then 0xFFFFF else if a = 0x010 then 0xF
      else if a = 0x018 then 0xFF7F07 else if a = 0x019 then 0x3FFF
      else if 0x100 ≤ a ∧ a ≤ 0x11F then 0x1F03 else 0xFFFFFFFF
    p ≠ .idle → u.ste.phase = p → p.length ≤ u.ste.units →
    ∃ t, exec (.selftestPhaseEnd failed) s = .next t ∧ t.ste.phase = p.following ∧ t.ste.units = 0 ∧
      t.ste.fails = (if bad = [] then u.ste.fails else u.ste.fails ||| p.failBit) ∧
      (bad = [] ∨ u.ste.fails ≠ 0 → t.ste.address = u.ste.address) ∧
      (bad ≠ [] → u.ste.fails = 0 →
        ∃ f ∈ bad, t.ste.address = f.1.extractLsb' 0 16 ∧ ∀ g ∈ bad, f.1.toNat ≤ g.1.toNat) ∧
      (p ≠ .s6 → t.ctl.mode = u.ctl.mode ∧ t.evu = u.evu ∧ t.ste.signature = u.ste.signature) ∧
      (p = .s6 → t.ctl.mode = .setup ∧ t.ctl.testPassed = decide (t.ste.fails = 0) ∧
        t.ste.signature = (if t.ste.fails = 0 then 0x7E570A55 else 0x7E57FA11)) ∧
      t.ident = u.ident ∧ t.link.mem = u.link.mem ∧ t.link.drain = u.link.drain ∧ t.lane.frame = u.lane.frame ∧
      t.lane.fault = u.lane.fault ∧ t.evu.enable = u.evu.enable ∧ t.evu.alert = u.evu.alert ∧
      ((bad.map (·.1)).Nodup →
        (p = .s1 → (∀ f ∈ bad, t.readWord f.1.toNat = f.2 &&& fieldBits f.1.toNat) ∧
          ∀ a, p.tests a = true → ¬failedAt a → t.readWord a = u.readWord a) ∧
        (p = .s2 → t.sct.firstActive = true ∧
          ∀ k < 256,
            let fill : Word := if k < 31 then BitVec.ofNat 32 k else if k = 31 then 0x9F else 0
            (∀ f ∈ bad, f.1.toNat = 0x200 + k → t.sct.active.entry k = f.2) ∧
            (∀ f ∈ bad, f.1.toNat = 0x300 + k → t.sct.staged.entry k = f.2) ∧
            (¬failedAt (0x200 + k) → t.sct.active.entry k = fill) ∧
            (¬failedAt (0x300 + k) → t.sct.staged.entry k = fill)) ∧
        (p = .s3 → t.ste.storeFaults = bad ∧ t.stl = u.stl) ∧
        (p = .s4 → (u.ste.storeFaults.map (·.1)).Nodup →
          (∀ f ∈ u.ste.storeFaults, 0x4000 ≤ f.1.toNat ∧ f.1.toNat ≤ 0x7FFF) →
          t.stl.bank0 = .none ∧ t.stl.bank1 = .none ∧ t.ste.storeFaults = [] ∧
          (∀ f ∈ bad, Memory.readWord t.stl.mem (f.1.toNat - 0x4000) = f.2) ∧
          (∀ f ∈ u.ste.storeFaults, ¬failedAt f.1.toNat →
            Memory.readWord t.stl.mem (f.1.toNat - 0x4000) = f.2) ∧
          ∀ w, ¬failedAt (0x4000 + w) → (∀ f ∈ u.ste.storeFaults, f.1.toNat ≠ 0x4000 + w) →
            Memory.readWord t.stl.mem w = 0))

/-! ## Feeds -/

/-- The path of one feed message (chapter 4), at step 4 of its instant. One that is not considered leaves no trace; failed
parity is counted and raised; an unclaimed one is counted; a claimed one advances the decimation counter and is taken
when the counter is 0; a taken one of a logged channel in RUN is offered to the log. A receiver that waited for its line
to be at idle frames again, at step 4 too (the model's choice, log entry 29); FEED_RECEIVER_RESYNC of any other receiver
changes nothing (log entry 2). The offered record
is discarded while the log is off, joins the append queue when it holds fewer than eight, and is otherwise dropped and
counted, with APPEND_DROP raised once per episode; in each case but the first a writer step is due at that instant, which
the model's own flag `writerDue` says (log entry 20). -/
def Obligations.FeedMessageJudged : Prop :=
  (∀ (feed : BitVec 2) (bits : BitVec 25) (prior : State),
    let s := prior.reach (40 + feed.toNat)
    let f := s.cap.feed feed.toNat
    let c := feed.toNat * 8 + (bits.extractLsb' 22 3).toNat
    let ch := s.cap.channel c
    let ones := (List.range 25).countP (fun k => bits.getLsbD k)
    let n := (ch.record.extractLsb' 8 5).toNat
    let decimated :=
      { ch with decim := if ch.decim.toNat + 1 = (if 1 ≤ n ∧ n ≤ 16 then n else 1) then 0 else ch.decim + 1 }
    let taken : Channel :=
      { decimated with
        superseded :=
          if ch.sample.fresh = true then (if ch.superseded = 255 then 255 else ch.superseded + 1)
          else ch.superseded
        sample :=
          { value := bits.extractLsb' 1 20, seq := ch.sample.seq + 1, fresh := true, noData := false
            overRange := bits.getLsbD 21 } }
    let u : State := { s with cap := s.cap.setChannel c taken }
    let considered :=
      f.rx = .framing ∧ (s.ctl.mode = .setup ∨ s.ctl.mode = .run) ∧ s.cap.feedCfg.getLsbD feed.toNat = true
    let claimed := considered ∧ ones % 2 = 0 ∧ ch.record.getLsbD 0 = true
    (¬considered → exec (.feedMessage feed bits) prior = .next s) ∧
    (considered → ones % 2 = 1 →
      exec (.feedMessage feed bits) prior =
        .next ({ s with
          cap := s.cap.setFeed feed.toNat
            { f with parityErrors := if f.parityErrors = 255 then 255 else f.parityErrors + 1 } }.raise
          .feedParity (0#6 ++ feed ++ 0#5 ++ bits.extractLsb' 22 3))) ∧
    (considered → ones % 2 = 0 → ch.record.getLsbD 0 = false →
      exec (.feedMessage feed bits) prior =
        .next { s with
          cap := s.cap.setFeed feed.toNat
            { f with unclaimed := if f.unclaimed = 255 then 255 else f.unclaimed + 1 } }) ∧
    (claimed → ch.decim ≠ 0 →
      exec (.feedMessage feed bits) prior = .next { s with cap := s.cap.setChannel c decimated }) ∧
    (claimed → ch.decim = 0 → ¬(s.ctl.mode = .run ∧ ch.record.getLsbD 1 = true) →
      exec (.feedMessage feed bits) prior = .next u) ∧
    (claimed → ch.decim = 0 → s.ctl.mode = .run → ch.record.getLsbD 1 = true →
      exec (.feedMessage feed bits) prior =
        .next (u.offer
          { channel := BitVec.ofNat 6 c, overRange := bits.getLsbD 21, seq := ch.sample.seq + 1
            value := bits.extractLsb' 1 20
            slot := if s.lane.sub = .walking then BitVec.ofNat 16 s.lane.slotIndex else 0xFFFF
            frame := s.lane.frame })) ∧
    (f.rx = .waitIdle →
      exec (.feedReceiverResync feed) prior =
        .next { s with cap := s.cap.setFeed feed.toNat { f with rx := .framing } }) ∧
    (f.rx ≠ .waitIdle → exec (.feedReceiverResync feed) prior = .next s)) ∧
  (∀ (s : State) (o : Offer),
    let dropped : State :=
      { s with
        stl := { s.stl with
          dropped := if s.stl.dropped = 65535 then 65535 else s.stl.dropped + 1
          disarmed := true, writerDue := true } }
    (s.stl.logPages = 0 → s.offer o = s) ∧
    (s.stl.logPages ≠ 0 → s.stl.queue.length < 8 →
      s.offer o = { s with stl := { s.stl with queue := s.stl.queue ++ [o], writerDue := true } }) ∧
    (s.stl.logPages ≠ 0 → 8 ≤ s.stl.queue.length → s.stl.disarmed = true → s.offer o = dropped) ∧
    (s.stl.logPages ≠ 0 → 8 ≤ s.stl.queue.length → s.stl.disarmed = false →
      s.offer o = dropped.raise .appendDrop (0#10 ++ o.channel)))

/-! ## Lane -/

/-- R89, R93, R95, R99, R100, R111, R112: a frame marker has no effect outside RUN; a pending NOW stop takes place at it and
nothing else happens; otherwise the number is recorded and checked for a gap, the frame just ended is judged, a pending
AT_FRAME stop takes place, or a due commit is carried out, a pending unmute happens and the frame begins. -/
def Obligations.FrameMarkerProcessed : Prop :=
  ∀ (n : BitVec 16) (prior : State),
    let s := (prior.reach 30).sawMarker
    let recorded : State := { s with lane := { s.lane with frame := n, markerSeen := true, drive := none } }
    let checked :=
      if s.lane.markerSeen = true ∧ n ≠ s.lane.frame + 1 then recorded.raise .frameGap n else recorded
    let judged :=
      if s.lane.sub = .walking ∧ s.lane.slotIndex < s.sct.active.length then
        checked.laneFault .scheduleLong 0 s.lane.slotIndex
      else checked
    let swapped : BitVec 8 → State := fun cause =>
      { judged with sct := { s.sct with firstActive := !s.sct.firstActive, commit := none } }.raise .tableSwapped
        (cause ++ BitVec.ofNat 8 (s.sct.staged.length - 1))
    let begun : State → State := fun u =>
      { u with
        lane := { u.lane with
          muted := u.lane.muted && !u.lane.unmute, unmute := false, sub := .walking, slotIndex := 0
          inSlot := false, shortSeen := false, watchCount := 0, watchExpired := false } }
    (s.ctl.mode ≠ .run → exec (.frameMarker n) prior = .next s) ∧
    (s.ctl.mode = .run → s.ctl.stop = some .now → exec (.frameMarker n) prior = .next s.leaveRun) ∧
    (s.ctl.mode = .run → s.ctl.stop = some .atFrame → exec (.frameMarker n) prior = .next judged.leaveRun) ∧
    (s.ctl.mode = .run → s.ctl.stop = none →
      (s.sct.commit = none → exec (.frameMarker n) prior = .next (begun judged)) ∧
      ∀ c, s.sct.commit = some c →
        (c.targeted = false ∨ c.late = true → exec (.frameMarker n) prior = .next (begun (swapped 2))) ∧
        (c.targeted = true → c.late = false → (n - c.target).toNat < 32768 →
          exec (.frameMarker n) prior = .next (begun (swapped 3))) ∧
        (c.targeted = true → c.late = false → 32768 ≤ (n - c.target).toNat →
          exec (.frameMarker n) prior = .next (begun judged)))

/-- R95, R96, R101, R102, R104, R111: a slot tick has no effect outside RUN and in AWAIT_FRAME; a pending NOW stop takes
place at it; in WALKING it walks one entry: a driven entry of a node that is not muted is contested bit by bit, won with
the slot word placed and FRESH cleared, or lost with a fault; after the last entry it leads to FRAME_DONE, and the first
such tick of a frame is a fault. -/
def Obligations.SlotTickProcessed : Prop :=
  ∀ (ltag : BitVec 6) (prior : State),
    let s := prior.reach 50
    let length := s.sct.active.length
    let e := s.sct.active.entry s.lane.slotIndex
    let c := (e.extractLsb' 0 6).toNat
    let id := s.ident.nodeId
    let readsBack : Nat → Prop := fun i => id.getMsbD i = true → ltag.getMsbD i = true
    let walked : State → State := fun u =>
      { u with lane := { u.lane with slotIndex := s.lane.slotIndex + 1, inSlot := true } }
    let driving : Option SlotDrive → State := fun d => { s with lane := { s.lane with drive := d } }
    let extra : State :=
      { s with lane := { s.lane with drive := none, sub := .frameDone, inSlot := false, shortSeen := true } }
    let tick := exec (.slotTick ltag) prior
    (s.ctl.mode ≠ .run → tick = .next s) ∧
    (s.ctl.mode = .run → s.ctl.stop = some .now → tick = .next s.leaveRun) ∧
    (s.ctl.mode = .run → s.ctl.stop ≠ some .now →
      (s.lane.sub = .awaitFrame → tick = .next s) ∧
      (s.lane.sub = .walking → s.lane.slotIndex < length →
        (e.getLsbD 6 = false ∨ s.lane.muted = true → tick = .next (walked (driving none))) ∧
        (e.getLsbD 6 = true → s.lane.muted = false → (∀ i < 6, readsBack i) →
          tick = .next (walked
            { driving (some ⟨6, id, some (s.slotWord c)⟩) with
              cap :=
                if c < 32 then
                  s.cap.setChannel c
                    { s.cap.channel c with sample := { (s.cap.channel c).sample with fresh := false } }
                else s.cap })) ∧
        ∀ i < 6, e.getLsbD 6 = true → s.lane.muted = false → (∀ j < i, readsBack j) → ¬readsBack i →
          tick = .next (walked ((driving (some ⟨i + 1, id, none⟩)).laneFault .contentionLost (i + 1)
            s.lane.slotIndex))) ∧
      (s.lane.sub = .frameDone ∨ (s.lane.sub = .walking ∧ length ≤ s.lane.slotIndex) →
        (s.lane.shortSeen = true → tick = .next extra) ∧
        (s.lane.shortSeen = false → tick = .next (extra.laneFault .scheduleShort 0 length))))

/-- R105, R106, R107: a fault of a node that is not muted mutes it, loads the fault record, sets FAULT_COUNT to 1 and raises
its event with LOST_BIT and SLOT; a fault of a muted node is counted, loads the record only when it is clear, cancels a
pending unmute and raises nothing. -/
def Obligations.LaneFaultsMute : Prop :=
  ∀ (s : State) (k : LaneFault) (bit slot : Nat), k ≠ .none →
    let record : FaultRecord := { kind := k, lostBit := bit, slot := slot, frame := s.lane.frame }
    let event : EventKind :=
      match k with
      | .scheduleShort => .scheduleShort
      | .scheduleLong => .scheduleLong
      | .contentionLost | .none => .contentionLost
    (s.lane.muted = false →
      s.laneFault k bit slot =
        { s with lane := { s.lane with muted := true, fault := record, faultCount := 1 } }.raise event
          (BitVec.ofNat 7 bit ++ BitVec.ofNat 9 slot)) ∧
    (s.lane.muted = true →
      s.laneFault k bit slot =
        { s with
          lane := { s.lane with
            faultCount := if s.lane.faultCount = 255 then 255 else s.lane.faultCount + 1
            fault := if s.lane.fault.kind = .none then record else s.lane.fault
            unmute := false } })

/-- R103, R104: the 40 bits of the slot word for every channel, as the word the node places (the bits' order in time on LDAT
is left out, log entry 12): CHANNEL, STALE, NODATA, OVER, REFERENCE, SEQ, VALUE, and check
bits that leave an even number of 1 bits in the odd-numbered and in the even-numbered bits. -/
def Obligations.SlotWordLayout : Prop :=
  ∀ (s : State) (c : Nat), c ≤ 33 →
    let w := s.slotWord c
    let x := (s.cap.channel c).sample
    w.extractLsb' 34 6 = BitVec.ofNat 6 c ∧
      (w.getLsbD 33 = true ↔ c ≤ 31 ∧ x.noData = false ∧ x.fresh = false) ∧
      (w.getLsbD 32 = true ↔ c ≤ 31 ∧ x.noData = true) ∧
      (w.getLsbD 31 = true ↔ c ≤ 31 ∧ x.noData = false ∧ x.overRange = true) ∧
      (w.getLsbD 30 = true ↔ 32 ≤ c) ∧
      w.extractLsb' 22 8 =
        (if 32 ≤ c then s.lane.frame.extractLsb' 0 8 else if x.noData = true then 0 else x.seq) ∧
      w.extractLsb' 2 20 =
        (if c = 32 then 0 else if c = 33 then s.cap.span.extractLsb' 0 20
          else if x.noData = true then 0 else x.value) ∧
      (List.range 20).countP (fun k => w.getLsbD (2 * k + 1)) % 2 = 0 ∧
      (List.range 20).countP (fun k => w.getLsbD (2 * k)) % 2 = 0

/-! ## Internal completions, the log, events -/

/-- R1, R169: a link unit that is received advances every timed count of the node by one, and nothing else counts: the page
opens, the frame watch in RUN, a running self-test phase, the soft reset's step; but no count that has begun at the very
instant at which the unit ends (R119; self-test and soft reset: log entry 28), and the watch not at the instant of a marker
(R114). It makes the log writer's step of its instant due, unless that has been taken (R126; the model's own flag, log
entry 20). It ends at the open instant, when none has ended there and nothing has been taken that comes after its first
place, or at one of its own (log entry 23). R114, R119: a page open whose units have passed leaves its bank OPEN with the
page; the watch at its limit raises LANE_SILENT once. PAGE_OPEN_DONE and FRAME_WATCH_EXPIRY given early let the units still
to come pass, one by one (log entry 3); they change nothing when no open is in progress in the bank, and when the watch does
not count or its count is 0 at an open instant, at whatever instant it was set to 0 (the model's choice, log entry 2). -/
def Obligations.CountsRunOutWithUnits : Prop :=
  (∀ (s : State) (m : Moment),
    let left : Bank → PageState → PageState := fun b p =>
      match p with
      | .opening page remaining => .opening page (if .opening b ∈ m.begun then remaining else remaining - 1)
      | .opened page => .opened page
      | .none => .none
    s.endUnit m =
      { s with
        link := { s.link with units := s.link.units + 1 }
        ctl := { s.ctl with
          softStep := if .softStep ∈ m.begun then s.ctl.softStep else s.ctl.softStep.map (fun k => k - 1) }
        stl := { s.stl with
          bank0 := left .bank0 s.stl.bank0
          bank1 := left .bank1 s.stl.bank1
          writerDue := s.stl.writerDue || decide (m.place < 60) }
        lane := { s.lane with
          watchCount :=
            if m.marker = false ∧ s.ctl.mode = .run then s.lane.watchCount + 1 else s.lane.watchCount }
        ste := { s.ste with
          units := if s.ste.phase = .idle ∨ .phase ∈ m.begun then s.ste.units else s.ste.units + 1 }
        now := some { m with unit := true, place := max m.place 10 } }) ∧
  (∀ (s : State) (p : Nat),
    (∀ m, s.now = some m → m.unit = false → m.place < p → s.openUnit p = s.endUnit m) ∧
      ((∀ m, s.now = some m → m.unit = true ∨ p ≤ m.place) →
        s.openUnit p = s.close.endUnit ⟨10, false, false, []⟩)) ∧
  (∀ (s : State) (mid : BitVec 4) (n : Nat),
    s.passUnits 0 = s ∧ s.passUnits (n + 1) = (s.passUnit 0).passUnits n ∧
    ∀ v : State, (∃ m, s.now = some m ∧ m.unit = false ∧ m.place < 70 ∧ m.begun = []) ∧ v = s ∨
        (∀ m, s.now = some m → m.unit = true ∨ 70 ≤ m.place ∨ m.begun ≠ []) ∧ v = s.close →
      (v.link.rx.stalled = true → s.passUnit mid = v) ∧
      (v.link.rx.stalled = false →
        s.passUnit mid = v.receive (if v.link.rx.inRequest = true then .octet else .idle) mid)) ∧
  (∀ (b : Bank) (s : State), (∀ page n, s.stl.bank b ≠ .opening page n) → exec (.pageOpenDone b) s = .next s) ∧
  (∀ (b : Bank) (s : State) (page n : Nat), s.stl.bank b = .opening page n →
    (n = 0 → s.completeOpen b = { s with stl := s.stl.setBank b (.opened page) }) ∧
    (n ≠ 0 → s.completeOpen b = s) ∧
    (s.ModesConsistent → s.link.rx = .listen → s.ctl.mode = .setup ∨ s.ctl.mode = .run ∨ s.ctl.mode = .quiet →
      ∃ t, exec (.pageOpenDone b) s = .next t ∧ t.stl.bank b = .opened page ∧
        t.link.units = s.link.units + n)) ∧
  ∀ s : State,
    let limit := s.lane.watchCfg.extractLsb' 0 8
    let silent : State → State := fun u =>
      { u.raise .laneSilent (BitVec.ofNat 8 s.lane.sub.code ++ limit) with
        lane := { u.lane with watchExpired := true } }
    let counts := s.ctl.mode = .run ∧ limit ≠ 0 ∧ s.lane.watchExpired = false
    (counts → limit.toNat * 256 ≤ s.lane.watchCount → s.expireWatch = silent s) ∧
    (counts → s.ModesConsistent → s.link.rx = .listen → s.now = none →
      exec .frameWatchExpiry s = .next (silent (s.before .frameWatchExpiry)) ∧
        (s.before .frameWatchExpiry).link.units = s.link.units + (limit.toNat * 256 - s.lane.watchCount)) ∧
    (¬counts ∨ (s.now ≠ none ∧ s.lane.watchCount = 0) → exec .frameWatchExpiry s = .next s)

/-- R124, R126, R127, R128, R132: the step of the log writer that is due at the instant, since a unit has ended or a
record was offered at it, taken at step 6 on the oldest queued record; none when none is due (log entries 2 and 20), and
none in RESET. It is the step that the node takes by itself before step 7. The record is dropped when the log is full and
it may not overwrite (or the log is off, log entry 18); it waits while the bank of its page is OPENING; it has its page
opened when it is closed, which takes the 20 units received after this instant (R119); otherwise its words, and no
other byte, are written at the tail place, the pointers, the counts and the serial advance, and LOG_WATERMARK and
LOG_FULL are raised as the count rises. -/
def Obligations.LogWriterTakesStep : Prop :=
  (∀ s : State, s.ctl.mode = .reset → exec .logWriterStep s = .next s) ∧
  (∀ prior : State, prior.ctl.mode ≠ .reset →
    let s := prior.before .logWriterStep
    s.stl.writerDue = false ∨ s.ctl.mode = .reset ∨ s.stl.queue = [] →
    exec .logWriterStep prior = .next { s with stl := { s.stl with writerDue := false } }) ∧
  (∀ prior : State, prior.ctl.mode ≠ .reset → prior.stl.writerDue = true →
    exec .logWriterStep prior = .next ((prior.reach 60).writerStep.noteBegun (prior.reach 60))) ∧
  ∀ (prior : State) (o : Offer) (rest : List Offer), prior.ctl.mode ≠ .reset →
    let s := prior.before .logWriterStep
    s.stl.writerDue = true → s.ctl.mode ≠ .reset → s.stl.queue = o :: rest →
    let t := s.stl
    let waits : State := { s with stl := { t with writerDue := false } }
    let popped : Store :=
      { t with queue := rest, disarmed := if rest = [] then false else t.disarmed, writerDue := false }
    let page := t.placePage t.tail
    let bank := t.bankOf page
    let full := t.count = t.capacity
    let drops := t.logPages = 0 ∨ (full ∧ (t.overwrite = false ∨ t.inFlight ≠ 0))
    let isOpen := t.bank bank = .opened (t.physicalPage page)
    let count := if full then t.count else t.count + 1
    let record : List Word :=
      [0#16 ++ o.seq ++ BitVec.ofBool o.overRange ++ 0#1 ++ o.channel, o.value.signExtend 32] ++
        (if t.stamp = true then [o.frame ++ o.slot, t.serial] else [])
    let place := t.placeAddress t.tail
    let watermark : State → State := fun u =>
      if t.count < t.watermarkLevel ∧ t.watermarkLevel ≤ count then
        u.raise .logWatermark (BitVec.ofNat 16 count)
      else u
    let fills : State → State := fun u =>
      if t.count < t.capacity ∧ count = t.capacity then
        u.raise .logFull (BitVec.ofBool t.overwrite ++ BitVec.ofNat 15 t.capacity)
      else u
    (drops →
      exec .logWriterStep prior =
        .next { s with
          stl := { popped with dropped := if t.dropped = 65535 then 65535 else t.dropped + 1 } }) ∧
    (¬drops → ¬isOpen → (t.bank bank).isOpening = true → exec .logWriterStep prior = .next waits) ∧
    (¬drops → ¬isOpen → (t.bank bank).isOpening = false →
      exec .logWriterStep prior =
        .next { s with
          stl := waits.stl.setBank bank (.opening (t.physicalPage page) 20)
          now := s.now.map (fun m => { m with begun := m.begun ++ [.opening bank] }) }) ∧
    (¬drops → isOpen → ∃ m,
      exec .logWriterStep prior =
        .next { fills (watermark s) with
          stl := { popped with
            mem := m
            head := if full then t.placeAfter t.head 1 else t.head
            tail := t.placeAfter t.tail 1
            count := count
            overwritten :=
              if full then (if t.overwritten = 65535 then 65535 else t.overwritten + 1) else t.overwritten
            serial := t.serial + 1 } } ∧
        (s.StoreCanonical → m.wf = true) ∧
        (s.StoreCanonical → ∀ j, (h : j < record.length) →
          Memory.readWord m (t.physicalWord (place + j)) = record[j]) ∧
        (s.StoreCanonical → ∀ b, (∀ j < record.length, b / 4 ≠ t.physicalWord (place + j)) →
          Memory.read m b = Memory.read t.mem b))

/-- R140, R142, R145, R148, R149: a raised event leaves no trace in RESET or when its kind is disabled, is counted in LOST
when the queue holds 16 records, and otherwise becomes the newest record with the frame number held and the next serial.
The attention condition follows the queue, LOST and ALERT_ENABLE; ALERTN takes its value when an instant has ended. The
kinds have the codes of Table 8-1. -/
def Obligations.RaisedEventsAreQueuedOrLost : Prop :=
  [EventKind.selftestDone, .headerCheck, .dataCheck, .replyTruncated, .broadcastIgnored, .replyClash, .beaconStray,
    .feedParity, .tableSwapped, .commitLate, .contentionLost, .scheduleShort, .scheduleLong, .laneSilent, .frameGap,
    .logWatermark, .logFull, .appendDrop].map EventKind.code =
    [1, 2, 3, 4, 5, 6, 7, 8, 9, 10, 11, 12, 13, 14, 15, 16, 17, 18] ∧
  ∀ (s : State) (k : EventKind) (detail : BitVec 16),
    (s.ctl.mode = .reset ∨ s.evu.enable.getLsbD k.code = false → s.raise k detail = s) ∧
    (s.ctl.mode ≠ .reset → s.evu.enable.getLsbD k.code = true → 16 ≤ s.evu.queue.length →
      s.raise k detail =
        { s with evu := { s.evu with lost := if s.evu.lost = 255 then 255 else s.evu.lost + 1 } }) ∧
    (s.ctl.mode ≠ .reset → s.evu.enable.getLsbD k.code = true → s.evu.queue.length < 16 →
      s.raise k detail =
        { s with
          evu := { s.evu with
            queue := s.evu.queue ++
              [{ kind := k, detail := detail, frame := s.lane.frame, serial := s.evu.serial }]
            serial := s.evu.serial + 1 } }) ∧
    (s.evu.attention = true ↔
      (∃ r ∈ s.evu.queue, s.evu.alert.getLsbD r.kind.code = true) ∨
        (s.evu.lost ≠ 0 ∧ s.evu.alert.getLsbD 0 = true)) ∧
    (s.now ≠ none → (s.close.evu.alertn = true ↔ s.close.ctl.mode ≠ .reset ∧ s.close.evu.attention = true))
end

