-- ==== Sys2Proof/Laws/Memory.lean ====
section
/-! SUPPORT. The memory operations keep the canonical form; a byte reads back as written, and no other byte changes. -/

namespace Sys2Proof.Machine

/-! ## The canonical form -/

theorem Memory.wfFrom_mono {m : Memory} {lo lo' : Nat} (h : lo' ≤ lo) (hw : Memory.wfFrom lo m = true) :
    Memory.wfFrom lo' m = true := by
  cases m with
  | nil => rfl
  | cons c rest =>
    obtain ⟨a, v⟩ := c
    simp only [Memory.wfFrom, Bool.and_eq_true, decide_eq_true_eq] at hw ⊢
    exact ⟨⟨h.trans hw.1.1, hw.1.2⟩, hw.2⟩

theorem Memory.write_wfFrom {m : Memory} {lo a : Nat} (v : Octet) (ha : lo ≤ a)
    (hw : Memory.wfFrom lo m = true) : Memory.wfFrom lo (Memory.write m a v) = true := by
  induction m generalizing lo with
  | nil => by_cases hv : v = Memory.unlisted <;> simp [Memory.write, Memory.wfFrom, hv, ha]
  | cons c rest ih =>
    obtain ⟨b, w⟩ := c
    simp only [Memory.wfFrom, Bool.and_eq_true, decide_eq_true_eq] at hw
    obtain ⟨⟨hb, hw0⟩, hr⟩ := hw
    unfold Memory.write
    by_cases h1 : a < b
    · rw [if_pos h1]
      by_cases hv : v = Memory.unlisted
      · simp [hv, Memory.wfFrom, hb, hr, hw0]
      · simp [hv, Memory.wfFrom, ha, hr, hw0, Nat.succ_le_of_lt h1]
    · rw [if_neg h1]
      by_cases h2 : a = b
      · subst h2
        by_cases hv : v = Memory.unlisted
        · simpa [hv] using Memory.wfFrom_mono (by omega) hr
        · simp [hv, Memory.wfFrom, ha, hr]
      · rw [if_neg h2]
        simp only [Memory.wfFrom, Bool.and_eq_true, decide_eq_true_eq]
        exact ⟨⟨hb, hw0⟩, ih (by omega) hr⟩

/-- Writing a byte keeps the canonical form. -/
theorem Memory.write_wf {m : Memory} (a : Nat) (v : Octet) (h : m.wf = true) : (m.write a v).wf = true :=
  Memory.write_wfFrom v (Nat.zero_le a) h

theorem Memory.writeEnabled_wf {m : Memory} (en : Bool) (a : Nat) (v : Octet) (h : m.wf = true) :
    (m.writeEnabled en a v).wf = true := by
  cases en
  · exact h
  · exact Memory.write_wf a v h

/-- Writing the enabled bytes of a word keeps the canonical form. -/
theorem Memory.writeWord_wf {m : Memory} (i : Nat) (en : BitVec 4) (w : Word) (h : m.wf = true) :
    (m.writeWord i en w).wf = true := by
  unfold Memory.writeWord
  exact Memory.writeEnabled_wf _ _ _ (Memory.writeEnabled_wf _ _ _ (Memory.writeEnabled_wf _ _ _
    (Memory.writeEnabled_wf _ _ _ h)))

/-- Writing the enabled bytes of a store word keeps the canonical form. -/
theorem Store.writeWord_wf {t : Store} (a : Nat) (en : BitVec 4) (w : Word) (h : t.mem.wf = true) :
    (t.writeWord a en w).mem.wf = true :=
  Memory.writeWord_wf (t.physicalWord a) en w h

theorem Store.writeWords_wf {t : Store} {a : Nat} {ws : List Word} (h : t.mem.wf = true) :
    (t.writeWords a ws).mem.wf = true := by
  induction ws generalizing t a with
  | nil => exact h
  | cons w ws ih => exact ih (Store.writeWord_wf _ _ _ h)

theorem Store.writeStoreFrom_wf {t : Store} {h : Header} {k n : Nat} {ws : List Word} (hw : t.mem.wf = true) :
    (t.writeStoreFrom h k n ws).mem.wf = true := by
  induction ws generalizing t k with
  | nil => exact hw
  | cons w ws ih => exact ih (Store.writeWord_wf _ _ _ hw)

/-- The store is zeroed in the canonical form, failed words apart (R154). -/
theorem Store.zero_wf (t : Store) (bad : List FailedWord) : (t.zero bad).mem.wf = true := by
  suffices ∀ m : Memory, m.wf = true →
      (bad.foldl (fun m f => Memory.writeWord m (f.1.toNat - 0x4000) 0xF f.2) m).wf = true from this [] rfl
  induction bad with
  | nil => exact fun m h => h
  | cons f fs ih => exact fun m h => ih _ (Memory.writeWord_wf _ _ _ h)

/-- The memory after reset is in canonical form. -/
theorem State.reset_mem_wf : State.reset.stl.mem.wf = true := rfl

/-! ## Reading after writing -/

/-- In canonical form no address below the bound is listed. -/
theorem Memory.read_below {m : Memory} {lo a : Nat} (h : a < lo) (hw : Memory.wfFrom lo m = true) :
    Memory.read m a = Memory.unlisted := by
  induction m generalizing lo with
  | nil => rfl
  | cons c rest ih =>
    obtain ⟨b, w⟩ := c
    simp only [Memory.wfFrom, Bool.and_eq_true, decide_eq_true_eq] at hw
    have hne : b ≠ a := by omega
    simp only [Memory.read, if_neg hne]
    exact ih (by omega : a < b + 1) hw.2

/-- A byte reads back as written. -/
theorem Memory.read_write_same {m : Memory} {lo : Nat} (a : Nat) (v : Octet)
    (hw : Memory.wfFrom lo m = true) : Memory.read (Memory.write m a v) a = v := by
  induction m generalizing lo with
  | nil => by_cases hv : v = Memory.unlisted <;> simp [Memory.write, Memory.read, hv]
  | cons c rest ih =>
    obtain ⟨b, w⟩ := c
    have hw' := hw
    simp only [Memory.wfFrom, Bool.and_eq_true, decide_eq_true_eq] at hw'
    unfold Memory.write
    by_cases h1 : a < b
    · rw [if_pos h1]
      by_cases hv : v = Memory.unlisted
      · rw [if_pos hv, hv]
        have hne : b ≠ a := by omega
        simp only [Memory.read, if_neg hne]
        exact Memory.read_below (by omega : a < b + 1) hw'.2
      · simp [hv, Memory.read]
    · rw [if_neg h1]
      by_cases h2 : a = b
      · subst h2
        by_cases hv : v = Memory.unlisted
        · simpa [hv] using Memory.read_below (Nat.lt_succ_self a) hw'.2
        · simp [hv, Memory.read]
      · have hne : b ≠ a := fun h => h2 h.symm
        rw [if_neg h2]
        simp only [Memory.read, if_neg hne]
        exact ih hw'.2

/-- Every other byte reads as before. -/
theorem Memory.read_write_other {m : Memory} {lo a a' : Nat} (v : Octet) (h : a' ≠ a)
    (hw : Memory.wfFrom lo m = true) : Memory.read (Memory.write m a v) a' = Memory.read m a' := by
  induction m generalizing lo with
  | nil =>
    by_cases hv : v = Memory.unlisted
    · simp [Memory.write, Memory.read, hv]
    · simp [Memory.write, Memory.read, hv, Ne.symm h]
  | cons c rest ih =>
    obtain ⟨b, w⟩ := c
    simp only [Memory.wfFrom, Bool.and_eq_true, decide_eq_true_eq] at hw
    unfold Memory.write
    by_cases h1 : a < b
    · rw [if_pos h1]
      by_cases hv : v = Memory.unlisted
      · rw [if_pos hv]
      · rw [if_neg hv]
        simp [Memory.read, Ne.symm h]
    · rw [if_neg h1]
      by_cases h2 : a = b
      · subst h2
        have hne : a ≠ a' := Ne.symm h
        by_cases hv : v = Memory.unlisted
        · simp [hv, Memory.read, hne]
        · simp [hv, Memory.read, hne]
      · rw [if_neg h2]
        by_cases h3 : b = a'
        · simp [Memory.read, h3]
        · simp only [Memory.read, if_neg h3]
          exact ih hw.2

/-- A byte outside the four bytes of a word reads as before when the word is written. -/
theorem Memory.read_writeWord_other {m : Memory} {i a : Nat} (en : BitVec 4) (w : Word) (hw : m.wf = true)
    (h : a < 4 * i ∨ 4 * i + 3 < a) : Memory.read (Memory.writeWord m i en w) a = Memory.read m a := by
  have step : ∀ (m : Memory) (e : Bool) (b : Nat) (v : Octet), m.wf = true → a ≠ b →
      Memory.read (Memory.writeEnabled m e b v) a = Memory.read m a := by
    intro m e b v hm hne
    cases e
    · rfl
    · exact Memory.read_write_other v hne hm
  unfold Memory.writeWord
  have w1 := Memory.writeEnabled_wf (en.getLsbD 0) (4 * i) (w.extractLsb' 0 8) hw
  have w2 := Memory.writeEnabled_wf (en.getLsbD 1) (4 * i + 1) (w.extractLsb' 8 8) w1
  have w3 := Memory.writeEnabled_wf (en.getLsbD 2) (4 * i + 2) (w.extractLsb' 16 8) w2
  rw [step _ _ _ _ w3 (by omega), step _ _ _ _ w2 (by omega), step _ _ _ _ w1 (by omega),
    step _ _ _ _ hw (by omega)]

end Sys2Proof.Machine
end

