-- ==== Sys2Proof/Laws/State.lean ====
section
/-! SUPPORT. One lemma per field per update: what each shared operation leaves in each block of the state. -/

namespace Sys2Proof.Machine

/-! ## Raising an event -/

@[simp] theorem State.raise_link (s : State) (k : EventKind) (d : BitVec 16) : (s.raise k d).link = s.link := rfl
@[simp] theorem State.raise_ident (s : State) (k : EventKind) (d : BitVec 16) : (s.raise k d).ident = s.ident := rfl
@[simp] theorem State.raise_ctl (s : State) (k : EventKind) (d : BitVec 16) : (s.raise k d).ctl = s.ctl := rfl
@[simp] theorem State.raise_cap (s : State) (k : EventKind) (d : BitVec 16) : (s.raise k d).cap = s.cap := rfl
@[simp] theorem State.raise_sct (s : State) (k : EventKind) (d : BitVec 16) : (s.raise k d).sct = s.sct := rfl
@[simp] theorem State.raise_lane (s : State) (k : EventKind) (d : BitVec 16) : (s.raise k d).lane = s.lane := rfl
@[simp] theorem State.raise_stl (s : State) (k : EventKind) (d : BitVec 16) : (s.raise k d).stl = s.stl := rfl
@[simp] theorem State.raise_evu (s : State) (k : EventKind) (d : BitVec 16) :
    (s.raise k d).evu = s.evu.push (s.ctl.mode = .reset) k d s.lane.frame := rfl
@[simp] theorem State.raise_ste (s : State) (k : EventKind) (d : BitVec 16) : (s.raise k d).ste = s.ste := rfl
@[simp] theorem State.raise_user (s : State) (k : EventKind) (d : BitVec 16) : (s.raise k d).user = s.user := rfl
@[simp] theorem State.raise_now (s : State) (k : EventKind) (d : BitVec 16) : (s.raise k d).now = s.now := rfl
@[simp] theorem State.raise_pending (s : State) (k : EventKind) (d : BitVec 16) :
    (s.raise k d).pending = s.pending := rfl

/-! ## Link units -/

@[simp] theorem State.countUnit_link (s : State) (m : Moment) :
    (s.countUnit m).link = { s.link with units := s.link.units + 1 } := rfl
@[simp] theorem State.countUnit_ident (s : State) (m : Moment) : (s.countUnit m).ident = s.ident := rfl
@[simp] theorem State.countUnit_ctl (s : State) (m : Moment) : (s.countUnit m).ctl = s.ctl.countUnit m := rfl
@[simp] theorem State.countUnit_cap (s : State) (m : Moment) : (s.countUnit m).cap = s.cap := rfl
@[simp] theorem State.countUnit_sct (s : State) (m : Moment) : (s.countUnit m).sct = s.sct := rfl
@[simp] theorem State.countUnit_lane (s : State) (m : Moment) :
    (s.countUnit m).lane = if !m.marker && s.ctl.mode = .run then s.lane.countUnit else s.lane := rfl
@[simp] theorem State.countUnit_stl (s : State) (m : Moment) : (s.countUnit m).stl = s.stl.countUnit m := rfl
@[simp] theorem State.countUnit_evu (s : State) (m : Moment) : (s.countUnit m).evu = s.evu := rfl
@[simp] theorem State.countUnit_ste (s : State) (m : Moment) : (s.countUnit m).ste = s.ste.countUnit m := rfl
@[simp] theorem State.countUnit_user (s : State) (m : Moment) : (s.countUnit m).user = s.user := rfl
@[simp] theorem State.countUnit_now (s : State) (m : Moment) : (s.countUnit m).now = s.now := rfl
@[simp] theorem State.countUnit_pending (s : State) (m : Moment) : (s.countUnit m).pending = s.pending := rfl

@[simp] theorem State.withRx_link (s : State) (rx : RxState) : (s.withRx rx).link = { s.link with rx := rx } := rfl
@[simp] theorem State.withRx_ident (s : State) (rx : RxState) : (s.withRx rx).ident = s.ident := rfl
@[simp] theorem State.withRx_ctl (s : State) (rx : RxState) : (s.withRx rx).ctl = s.ctl := rfl
@[simp] theorem State.withRx_cap (s : State) (rx : RxState) : (s.withRx rx).cap = s.cap := rfl
@[simp] theorem State.withRx_sct (s : State) (rx : RxState) : (s.withRx rx).sct = s.sct := rfl
@[simp] theorem State.withRx_lane (s : State) (rx : RxState) : (s.withRx rx).lane = s.lane := rfl
@[simp] theorem State.withRx_stl (s : State) (rx : RxState) : (s.withRx rx).stl = s.stl := rfl
@[simp] theorem State.withRx_evu (s : State) (rx : RxState) : (s.withRx rx).evu = s.evu := rfl
@[simp] theorem State.withRx_ste (s : State) (rx : RxState) : (s.withRx rx).ste = s.ste := rfl
@[simp] theorem State.withRx_user (s : State) (rx : RxState) : (s.withRx rx).user = s.user := rfl
@[simp] theorem State.withRx_now (s : State) (rx : RxState) : (s.withRx rx).now = s.now := rfl
@[simp] theorem State.withRx_pending (s : State) (rx : RxState) : (s.withRx rx).pending = s.pending := rfl

/-! ## Tables and the log -/

@[simp] theorem State.swapTables_link (s : State) (c : SwapCause) : (s.swapTables c).link = s.link := rfl
@[simp] theorem State.swapTables_ident (s : State) (c : SwapCause) : (s.swapTables c).ident = s.ident := rfl
@[simp] theorem State.swapTables_ctl (s : State) (c : SwapCause) : (s.swapTables c).ctl = s.ctl := rfl
@[simp] theorem State.swapTables_cap (s : State) (c : SwapCause) : (s.swapTables c).cap = s.cap := rfl
@[simp] theorem State.swapTables_sct (s : State) (c : SwapCause) : (s.swapTables c).sct = s.sct.swap := rfl
@[simp] theorem State.swapTables_lane (s : State) (c : SwapCause) : (s.swapTables c).lane = s.lane := rfl
@[simp] theorem State.swapTables_stl (s : State) (c : SwapCause) : (s.swapTables c).stl = s.stl := rfl
@[simp] theorem State.swapTables_ste (s : State) (c : SwapCause) : (s.swapTables c).ste = s.ste := rfl
@[simp] theorem State.swapTables_user (s : State) (c : SwapCause) : (s.swapTables c).user = s.user := rfl
@[simp] theorem State.swapTables_now (s : State) (c : SwapCause) : (s.swapTables c).now = s.now := rfl
@[simp] theorem State.swapTables_pending (s : State) (c : SwapCause) : (s.swapTables c).pending = s.pending := rfl

@[simp] theorem State.resetLog_link (s : State) :
    (s.resetLog).link = { s.link with drain := { s.link.drain with valid := false } } := rfl
@[simp] theorem State.resetLog_ident (s : State) : (s.resetLog).ident = s.ident := rfl
@[simp] theorem State.resetLog_ctl (s : State) : (s.resetLog).ctl = s.ctl := rfl
@[simp] theorem State.resetLog_cap (s : State) : (s.resetLog).cap = s.cap := rfl
@[simp] theorem State.resetLog_sct (s : State) : (s.resetLog).sct = s.sct := rfl
@[simp] theorem State.resetLog_lane (s : State) : (s.resetLog).lane = s.lane := rfl
@[simp] theorem State.resetLog_stl (s : State) : (s.resetLog).stl = s.stl.emptyLog.emptyQueue := rfl
@[simp] theorem State.resetLog_evu (s : State) : (s.resetLog).evu = s.evu := rfl
@[simp] theorem State.resetLog_ste (s : State) : (s.resetLog).ste = s.ste := rfl
@[simp] theorem State.resetLog_user (s : State) : (s.resetLog).user = s.user := rfl
@[simp] theorem State.resetLog_now (s : State) : (s.resetLog).now = s.now := rfl
@[simp] theorem State.resetLog_pending (s : State) : (s.resetLog).pending = s.pending := rfl

/-! ## Leaving RUN, entering QUIET -/

@[simp] theorem State.commitOnStop_link (s : State) :
    (s.commitOnStop).link = s.link := by unfold State.commitOnStop; split <;> rfl
@[simp] theorem State.commitOnStop_ident (s : State) :
    (s.commitOnStop).ident = s.ident := by unfold State.commitOnStop; split <;> rfl
@[simp] theorem State.commitOnStop_ctl (s : State) :
    (s.commitOnStop).ctl = s.ctl := by unfold State.commitOnStop; split <;> rfl
@[simp] theorem State.commitOnStop_cap (s : State) :
    (s.commitOnStop).cap = s.cap := by unfold State.commitOnStop; split <;> rfl
@[simp] theorem State.commitOnStop_lane (s : State) :
    (s.commitOnStop).lane = s.lane := by unfold State.commitOnStop; split <;> rfl
@[simp] theorem State.commitOnStop_stl (s : State) :
    (s.commitOnStop).stl = s.stl := by unfold State.commitOnStop; split <;> rfl
@[simp] theorem State.commitOnStop_ste (s : State) :
    (s.commitOnStop).ste = s.ste := by unfold State.commitOnStop; split <;> rfl
@[simp] theorem State.commitOnStop_user (s : State) :
    (s.commitOnStop).user = s.user := by unfold State.commitOnStop; split <;> rfl
@[simp] theorem State.commitOnStop_now (s : State) :
    (s.commitOnStop).now = s.now := by unfold State.commitOnStop; split <;> rfl
@[simp] theorem State.commitOnStop_pending (s : State) :
    (s.commitOnStop).pending = s.pending := by unfold State.commitOnStop; split <;> rfl

@[simp] theorem State.leaveRun_link (s : State) : (s.leaveRun).link = s.link := by simp [State.leaveRun]
@[simp] theorem State.leaveRun_ident (s : State) : (s.leaveRun).ident = s.ident := by simp [State.leaveRun]
@[simp] theorem State.leaveRun_ctl (s : State) :
    (s.leaveRun).ctl = { s.ctl with mode := .setup, stop := none } := by simp [State.leaveRun]
@[simp] theorem State.leaveRun_cap (s : State) : (s.leaveRun).cap = s.cap := by simp [State.leaveRun]
@[simp] theorem State.leaveRun_sct (s : State) : (s.leaveRun).sct = s.commitOnStop.sct := by simp [State.leaveRun]
@[simp] theorem State.leaveRun_lane (s : State) : (s.leaveRun).lane = s.lane.leave := by simp [State.leaveRun]
@[simp] theorem State.leaveRun_stl (s : State) : (s.leaveRun).stl = s.stl := by simp [State.leaveRun]
@[simp] theorem State.leaveRun_evu (s : State) : (s.leaveRun).evu = s.commitOnStop.evu := by simp [State.leaveRun]
@[simp] theorem State.leaveRun_ste (s : State) : (s.leaveRun).ste = s.ste := by simp [State.leaveRun]
@[simp] theorem State.leaveRun_user (s : State) : (s.leaveRun).user = s.user := by simp [State.leaveRun]
@[simp] theorem State.leaveRun_now (s : State) : (s.leaveRun).now = s.now := by simp [State.leaveRun]
@[simp] theorem State.leaveRun_pending (s : State) : (s.leaveRun).pending = s.pending := by simp [State.leaveRun]

@[simp] theorem State.goQuiet_link (s : State) : (s.goQuiet).link = { s.link with rx := .listen } := rfl
@[simp] theorem State.goQuiet_ident (s : State) : (s.goQuiet).ident = s.ident := rfl
@[simp] theorem State.goQuiet_ctl (s : State) : (s.goQuiet).ctl = { s.ctl with mode := .quiet } := rfl
@[simp] theorem State.goQuiet_cap (s : State) :
    (s.goQuiet).cap = { s.cap with channels := s.cap.channels.map Channel.markNoData } := rfl
@[simp] theorem State.goQuiet_sct (s : State) : (s.goQuiet).sct = s.sct := rfl
@[simp] theorem State.goQuiet_lane (s : State) : (s.goQuiet).lane = s.lane := rfl
@[simp] theorem State.goQuiet_stl (s : State) : (s.goQuiet).stl = s.stl := rfl
@[simp] theorem State.goQuiet_evu (s : State) : (s.goQuiet).evu = s.evu := rfl
@[simp] theorem State.goQuiet_ste (s : State) : (s.goQuiet).ste = s.ste := rfl
@[simp] theorem State.goQuiet_user (s : State) : (s.goQuiet).user = s.user := rfl
@[simp] theorem State.goQuiet_now (s : State) : (s.goQuiet).now = s.now := rfl
@[simp] theorem State.goQuiet_pending (s : State) : (s.goQuiet).pending = s.pending := rfl

/-! ## Resets and the self-test -/

@[simp] theorem State.beginReset_link (s : State) (k : ResetCause) : (s.beginReset k).link = s.link.reset k := rfl
@[simp] theorem State.beginReset_ident (s : State) (k : ResetCause) : (s.beginReset k).ident = s.ident.reset k := rfl
@[simp] theorem State.beginReset_ctl (s : State) (k : ResetCause) : (s.beginReset k).ctl = s.ctl.reset k := rfl
@[simp] theorem State.beginReset_cap (s : State) (k : ResetCause) : (s.beginReset k).cap = Capture.reset := rfl
@[simp] theorem State.beginReset_sct (s : State) (k : ResetCause) : (s.beginReset k).sct = s.sct.reset := rfl
@[simp] theorem State.beginReset_lane (s : State) (k : ResetCause) : (s.beginReset k).lane = Lane.reset := rfl
@[simp] theorem State.beginReset_stl (s : State) (k : ResetCause) : (s.beginReset k).stl = s.stl.reset := rfl
@[simp] theorem State.beginReset_evu (s : State) (k : ResetCause) : (s.beginReset k).evu = s.evu.reset k := rfl
@[simp] theorem State.beginReset_ste (s : State) (k : ResetCause) : (s.beginReset k).ste = s.ste.reset := rfl
@[simp] theorem State.beginReset_user (s : State) (k : ResetCause) :
    (s.beginReset k).user = if k.isSoft then s.user else Vector.replicate 4 0 := rfl
@[simp] theorem State.beginReset_now (s : State) (k : ResetCause) : (s.beginReset k).now = s.now := rfl
@[simp] theorem State.beginReset_pending (s : State) (k : ResetCause) : (s.beginReset k).pending = s.pending := rfl

@[simp] theorem State.beginSelftest_link (s : State) : (s.beginSelftest).link = s.link := rfl
@[simp] theorem State.beginSelftest_ident (s : State) : (s.beginSelftest).ident = s.ident := rfl
@[simp] theorem State.beginSelftest_ctl (s : State) :
    (s.beginSelftest).ctl = { s.ctl with mode := .selftest, testPassed := false } := rfl
@[simp] theorem State.beginSelftest_cap (s : State) : (s.beginSelftest).cap = s.cap := rfl
@[simp] theorem State.beginSelftest_sct (s : State) : (s.beginSelftest).sct = s.sct := rfl
@[simp] theorem State.beginSelftest_lane (s : State) : (s.beginSelftest).lane = s.lane := rfl
@[simp] theorem State.beginSelftest_stl (s : State) : (s.beginSelftest).stl = s.stl := rfl
@[simp] theorem State.beginSelftest_evu (s : State) : (s.beginSelftest).evu = s.evu := rfl
@[simp] theorem State.beginSelftest_ste (s : State) : (s.beginSelftest).ste = SelfTest.begin s.link.cfg := rfl
@[simp] theorem State.beginSelftest_user (s : State) : (s.beginSelftest).user = s.user := rfl
@[simp] theorem State.beginSelftest_now (s : State) : (s.beginSelftest).now = s.now := rfl
@[simp] theorem State.beginSelftest_pending (s : State) : (s.beginSelftest).pending = s.pending := rfl

@[simp] theorem State.tryLeaveReset_link (s : State) (m : BitVec 4) :
    (s.tryLeaveReset m).link = s.link := by unfold State.tryLeaveReset; split <;> rfl
@[simp] theorem State.tryLeaveReset_ident (s : State) (m : BitVec 4) :
    (s.tryLeaveReset m).ident = s.ident := by unfold State.tryLeaveReset; split <;> rfl
@[simp] theorem State.tryLeaveReset_sct (s : State) (m : BitVec 4) :
    (s.tryLeaveReset m).sct = s.sct := by unfold State.tryLeaveReset; split <;> rfl
@[simp] theorem State.tryLeaveReset_lane (s : State) (m : BitVec 4) :
    (s.tryLeaveReset m).lane = s.lane := by unfold State.tryLeaveReset; split <;> rfl
@[simp] theorem State.tryLeaveReset_stl (s : State) (m : BitVec 4) :
    (s.tryLeaveReset m).stl = s.stl := by unfold State.tryLeaveReset; split <;> rfl
@[simp] theorem State.tryLeaveReset_evu (s : State) (m : BitVec 4) :
    (s.tryLeaveReset m).evu = s.evu := by unfold State.tryLeaveReset; split <;> rfl
@[simp] theorem State.tryLeaveReset_user (s : State) (m : BitVec 4) :
    (s.tryLeaveReset m).user = s.user := by unfold State.tryLeaveReset; split <;> rfl
@[simp] theorem State.tryLeaveReset_now (s : State) (m : BitVec 4) :
    (s.tryLeaveReset m).now = s.now := by unfold State.tryLeaveReset; split <;> rfl
@[simp] theorem State.tryLeaveReset_pending (s : State) (m : BitVec 4) :
    (s.tryLeaveReset m).pending = s.pending := by unfold State.tryLeaveReset; split <;> rfl

/-! ## Verdicts -/

@[simp] theorem State.dataCheckFailed_link (s : State) (h : Header) :
    (s.dataCheckFailed h).link = { s.link with dataErrors := satInc s.link.dataErrors } := rfl
@[simp] theorem State.dataCheckFailed_ident (s : State) (h : Header) : (s.dataCheckFailed h).ident = s.ident := rfl
@[simp] theorem State.dataCheckFailed_ctl (s : State) (h : Header) : (s.dataCheckFailed h).ctl = s.ctl := rfl
@[simp] theorem State.dataCheckFailed_cap (s : State) (h : Header) : (s.dataCheckFailed h).cap = s.cap := rfl
@[simp] theorem State.dataCheckFailed_sct (s : State) (h : Header) : (s.dataCheckFailed h).sct = s.sct := rfl
@[simp] theorem State.dataCheckFailed_lane (s : State) (h : Header) : (s.dataCheckFailed h).lane = s.lane := rfl
@[simp] theorem State.dataCheckFailed_stl (s : State) (h : Header) : (s.dataCheckFailed h).stl = s.stl := rfl
@[simp] theorem State.dataCheckFailed_ste (s : State) (h : Header) : (s.dataCheckFailed h).ste = s.ste := rfl
@[simp] theorem State.dataCheckFailed_user (s : State) (h : Header) : (s.dataCheckFailed h).user = s.user := rfl
@[simp] theorem State.dataCheckFailed_now (s : State) (h : Header) : (s.dataCheckFailed h).now = s.now := rfl
@[simp] theorem State.dataCheckFailed_pending (s : State) (h : Header) :
    (s.dataCheckFailed h).pending = s.pending := rfl

@[simp] theorem State.recordValidation_link (s : State) (h : Header) :
    (s.recordValidation h).link = s.link := by unfold State.recordValidation; split <;> rfl
@[simp] theorem State.recordValidation_ident (s : State) (h : Header) :
    (s.recordValidation h).ident = s.ident := by unfold State.recordValidation; split <;> rfl
@[simp] theorem State.recordValidation_ctl (s : State) (h : Header) :
    (s.recordValidation h).ctl = s.ctl := by unfold State.recordValidation; split <;> rfl
@[simp] theorem State.recordValidation_cap (s : State) (h : Header) :
    (s.recordValidation h).cap = s.cap := by unfold State.recordValidation; split <;> rfl
@[simp] theorem State.recordValidation_lane (s : State) (h : Header) :
    (s.recordValidation h).lane = s.lane := by unfold State.recordValidation; split <;> rfl
@[simp] theorem State.recordValidation_stl (s : State) (h : Header) :
    (s.recordValidation h).stl = s.stl := by unfold State.recordValidation; split <;> rfl
@[simp] theorem State.recordValidation_evu (s : State) (h : Header) :
    (s.recordValidation h).evu = s.evu := by unfold State.recordValidation; split <;> rfl
@[simp] theorem State.recordValidation_ste (s : State) (h : Header) :
    (s.recordValidation h).ste = s.ste := by unfold State.recordValidation; split <;> rfl
@[simp] theorem State.recordValidation_user (s : State) (h : Header) :
    (s.recordValidation h).user = s.user := by unfold State.recordValidation; split <;> rfl
@[simp] theorem State.recordValidation_now (s : State) (h : Header) :
    (s.recordValidation h).now = s.now := by unfold State.recordValidation; split <;> rfl
@[simp] theorem State.recordValidation_pending (s : State) (h : Header) :
    (s.recordValidation h).pending = s.pending := by unfold State.recordValidation; split <;> rfl

@[simp] theorem State.openNeeded_link (s : State) (h : Header) :
    (s.openNeeded h).link = s.link := by unfold State.openNeeded; split <;> rfl
@[simp] theorem State.openNeeded_ident (s : State) (h : Header) :
    (s.openNeeded h).ident = s.ident := by unfold State.openNeeded; split <;> rfl
@[simp] theorem State.openNeeded_ctl (s : State) (h : Header) :
    (s.openNeeded h).ctl = s.ctl := by unfold State.openNeeded; split <;> rfl
@[simp] theorem State.openNeeded_cap (s : State) (h : Header) :
    (s.openNeeded h).cap = s.cap := by unfold State.openNeeded; split <;> rfl
@[simp] theorem State.openNeeded_sct (s : State) (h : Header) :
    (s.openNeeded h).sct = s.sct := by unfold State.openNeeded; split <;> rfl
@[simp] theorem State.openNeeded_lane (s : State) (h : Header) :
    (s.openNeeded h).lane = s.lane := by unfold State.openNeeded; split <;> rfl
@[simp] theorem State.openNeeded_evu (s : State) (h : Header) :
    (s.openNeeded h).evu = s.evu := by unfold State.openNeeded; split <;> rfl
@[simp] theorem State.openNeeded_ste (s : State) (h : Header) :
    (s.openNeeded h).ste = s.ste := by unfold State.openNeeded; split <;> rfl
@[simp] theorem State.openNeeded_user (s : State) (h : Header) :
    (s.openNeeded h).user = s.user := by unfold State.openNeeded; split <;> rfl
@[simp] theorem State.openNeeded_now (s : State) (h : Header) :
    (s.openNeeded h).now = s.now := by unfold State.openNeeded; split <;> rfl
@[simp] theorem State.openNeeded_pending (s : State) (h : Header) :
    (s.openNeeded h).pending = s.pending := by unfold State.openNeeded; split <;> rfl

@[simp] theorem State.remember_ident (s : State) (r : Request) :
    (s.remember r).ident = s.ident := by unfold State.remember; split <;> rfl
@[simp] theorem State.remember_ctl (s : State) (r : Request) :
    (s.remember r).ctl = s.ctl := by unfold State.remember; split <;> rfl
@[simp] theorem State.remember_cap (s : State) (r : Request) :
    (s.remember r).cap = s.cap := by unfold State.remember; split <;> rfl
@[simp] theorem State.remember_sct (s : State) (r : Request) :
    (s.remember r).sct = s.sct := by unfold State.remember; split <;> rfl
@[simp] theorem State.remember_lane (s : State) (r : Request) :
    (s.remember r).lane = s.lane := by unfold State.remember; split <;> rfl
@[simp] theorem State.remember_stl (s : State) (r : Request) :
    (s.remember r).stl = s.stl := by unfold State.remember; split <;> rfl
@[simp] theorem State.remember_evu (s : State) (r : Request) :
    (s.remember r).evu = s.evu := by unfold State.remember; split <;> rfl
@[simp] theorem State.remember_ste (s : State) (r : Request) :
    (s.remember r).ste = s.ste := by unfold State.remember; split <;> rfl
@[simp] theorem State.remember_user (s : State) (r : Request) :
    (s.remember r).user = s.user := by unfold State.remember; split <;> rfl
@[simp] theorem State.remember_now (s : State) (r : Request) :
    (s.remember r).now = s.now := by unfold State.remember; split <;> rfl
@[simp] theorem State.remember_pending (s : State) (r : Request) :
    (s.remember r).pending = s.pending := by unfold State.remember; split <;> rfl

@[simp] theorem State.ignoreBroadcast_link (s : State) (c : BitVec 8) (i : Nat) :
    (s.ignoreBroadcast c i).link = s.link := rfl
@[simp] theorem State.ignoreBroadcast_ident (s : State) (c : BitVec 8) (i : Nat) :
    (s.ignoreBroadcast c i).ident = s.ident := rfl
@[simp] theorem State.ignoreBroadcast_ctl (s : State) (c : BitVec 8) (i : Nat) :
    (s.ignoreBroadcast c i).ctl = s.ctl := rfl
@[simp] theorem State.ignoreBroadcast_cap (s : State) (c : BitVec 8) (i : Nat) :
    (s.ignoreBroadcast c i).cap = s.cap := rfl
@[simp] theorem State.ignoreBroadcast_sct (s : State) (c : BitVec 8) (i : Nat) :
    (s.ignoreBroadcast c i).sct = s.sct := rfl
@[simp] theorem State.ignoreBroadcast_lane (s : State) (c : BitVec 8) (i : Nat) :
    (s.ignoreBroadcast c i).lane = s.lane := rfl
@[simp] theorem State.ignoreBroadcast_stl (s : State) (c : BitVec 8) (i : Nat) :
    (s.ignoreBroadcast c i).stl = s.stl := rfl
@[simp] theorem State.ignoreBroadcast_ste (s : State) (c : BitVec 8) (i : Nat) :
    (s.ignoreBroadcast c i).ste = s.ste := rfl
@[simp] theorem State.ignoreBroadcast_user (s : State) (c : BitVec 8) (i : Nat) :
    (s.ignoreBroadcast c i).user = s.user := rfl
@[simp] theorem State.ignoreBroadcast_now (s : State) (c : BitVec 8) (i : Nat) :
    (s.ignoreBroadcast c i).now = s.now := rfl
@[simp] theorem State.ignoreBroadcast_pending (s : State) (c : BitVec 8) (i : Nat) :
    (s.ignoreBroadcast c i).pending = s.pending := rfl

/-! ## Faults and the log offer -/

@[simp] theorem State.laneFault_link (s : State) (k : LaneFault) (b i : Nat) :
    (s.laneFault k b i).link = s.link := by unfold State.laneFault; split <;> rfl
@[simp] theorem State.laneFault_ident (s : State) (k : LaneFault) (b i : Nat) :
    (s.laneFault k b i).ident = s.ident := by unfold State.laneFault; split <;> rfl
@[simp] theorem State.laneFault_ctl (s : State) (k : LaneFault) (b i : Nat) :
    (s.laneFault k b i).ctl = s.ctl := by unfold State.laneFault; split <;> rfl
@[simp] theorem State.laneFault_cap (s : State) (k : LaneFault) (b i : Nat) :
    (s.laneFault k b i).cap = s.cap := by unfold State.laneFault; split <;> rfl
@[simp] theorem State.laneFault_sct (s : State) (k : LaneFault) (b i : Nat) :
    (s.laneFault k b i).sct = s.sct := by unfold State.laneFault; split <;> rfl
@[simp] theorem State.laneFault_lane (s : State) (k : LaneFault) (b i : Nat) :
    (s.laneFault k b i).lane = s.lane.fail k b i := by unfold State.laneFault; split <;> rfl
@[simp] theorem State.laneFault_stl (s : State) (k : LaneFault) (b i : Nat) :
    (s.laneFault k b i).stl = s.stl := by unfold State.laneFault; split <;> rfl
@[simp] theorem State.laneFault_ste (s : State) (k : LaneFault) (b i : Nat) :
    (s.laneFault k b i).ste = s.ste := by unfold State.laneFault; split <;> rfl
@[simp] theorem State.laneFault_user (s : State) (k : LaneFault) (b i : Nat) :
    (s.laneFault k b i).user = s.user := by unfold State.laneFault; split <;> rfl
@[simp] theorem State.laneFault_now (s : State) (k : LaneFault) (b i : Nat) :
    (s.laneFault k b i).now = s.now := by unfold State.laneFault; split <;> rfl
@[simp] theorem State.laneFault_pending (s : State) (k : LaneFault) (b i : Nat) :
    (s.laneFault k b i).pending = s.pending := by unfold State.laneFault; split <;> rfl

@[simp] theorem State.offer_link (s : State) (o : Offer) :
    (s.offer o).link = s.link := by unfold State.offer; split <;> rfl
@[simp] theorem State.offer_ident (s : State) (o : Offer) :
    (s.offer o).ident = s.ident := by unfold State.offer; split <;> rfl
@[simp] theorem State.offer_ctl (s : State) (o : Offer) :
    (s.offer o).ctl = s.ctl := by unfold State.offer; split <;> rfl
@[simp] theorem State.offer_cap (s : State) (o : Offer) :
    (s.offer o).cap = s.cap := by unfold State.offer; split <;> rfl
@[simp] theorem State.offer_sct (s : State) (o : Offer) :
    (s.offer o).sct = s.sct := by unfold State.offer; split <;> rfl
@[simp] theorem State.offer_lane (s : State) (o : Offer) :
    (s.offer o).lane = s.lane := by unfold State.offer; split <;> rfl
@[simp] theorem State.offer_stl (s : State) (o : Offer) :
    (s.offer o).stl = s.stl.offer o := by unfold State.offer; split <;> rfl
@[simp] theorem State.offer_ste (s : State) (o : Offer) :
    (s.offer o).ste = s.ste := by unfold State.offer; split <;> rfl
@[simp] theorem State.offer_user (s : State) (o : Offer) :
    (s.offer o).user = s.user := by unfold State.offer; split <;> rfl
@[simp] theorem State.offer_now (s : State) (o : Offer) :
    (s.offer o).now = s.now := by unfold State.offer; split <;> rfl
@[simp] theorem State.offer_pending (s : State) (o : Offer) :
    (s.offer o).pending = s.pending := by unfold State.offer; split <;> rfl

@[simp] theorem State.logEvents_link (s : State) (b : Store) :
    (s.logEvents b).link = s.link := by unfold State.logEvents; dsimp only; split <;> split <;> rfl
@[simp] theorem State.logEvents_ident (s : State) (b : Store) :
    (s.logEvents b).ident = s.ident := by unfold State.logEvents; dsimp only; split <;> split <;> rfl
@[simp] theorem State.logEvents_ctl (s : State) (b : Store) :
    (s.logEvents b).ctl = s.ctl := by unfold State.logEvents; dsimp only; split <;> split <;> rfl
@[simp] theorem State.logEvents_cap (s : State) (b : Store) :
    (s.logEvents b).cap = s.cap := by unfold State.logEvents; dsimp only; split <;> split <;> rfl
@[simp] theorem State.logEvents_sct (s : State) (b : Store) :
    (s.logEvents b).sct = s.sct := by unfold State.logEvents; dsimp only; split <;> split <;> rfl
@[simp] theorem State.logEvents_lane (s : State) (b : Store) :
    (s.logEvents b).lane = s.lane := by unfold State.logEvents; dsimp only; split <;> split <;> rfl
@[simp] theorem State.logEvents_stl (s : State) (b : Store) :
    (s.logEvents b).stl = s.stl := by unfold State.logEvents; dsimp only; split <;> split <;> rfl
@[simp] theorem State.logEvents_ste (s : State) (b : Store) :
    (s.logEvents b).ste = s.ste := by unfold State.logEvents; dsimp only; split <;> split <;> rfl
@[simp] theorem State.logEvents_user (s : State) (b : Store) :
    (s.logEvents b).user = s.user := by unfold State.logEvents; dsimp only; split <;> split <;> rfl
@[simp] theorem State.logEvents_now (s : State) (b : Store) :
    (s.logEvents b).now = s.now := by unfold State.logEvents; dsimp only; split <;> split <;> rfl
@[simp] theorem State.logEvents_pending (s : State) (b : Store) :
    (s.logEvents b).pending = s.pending := by unfold State.logEvents; dsimp only; split <;> split <;> rfl

/-! ## The node's own events -/

@[simp] theorem State.completeOpen_link (s : State) (b : Sys2Proof.Bank) :
    (s.completeOpen b).link = s.link := by unfold State.completeOpen; split <;> rfl
@[simp] theorem State.completeOpen_ident (s : State) (b : Sys2Proof.Bank) :
    (s.completeOpen b).ident = s.ident := by unfold State.completeOpen; split <;> rfl
@[simp] theorem State.completeOpen_ctl (s : State) (b : Sys2Proof.Bank) :
    (s.completeOpen b).ctl = s.ctl := by unfold State.completeOpen; split <;> rfl
@[simp] theorem State.completeOpen_cap (s : State) (b : Sys2Proof.Bank) :
    (s.completeOpen b).cap = s.cap := by unfold State.completeOpen; split <;> rfl
@[simp] theorem State.completeOpen_sct (s : State) (b : Sys2Proof.Bank) :
    (s.completeOpen b).sct = s.sct := by unfold State.completeOpen; split <;> rfl
@[simp] theorem State.completeOpen_lane (s : State) (b : Sys2Proof.Bank) :
    (s.completeOpen b).lane = s.lane := by unfold State.completeOpen; split <;> rfl
@[simp] theorem State.completeOpen_evu (s : State) (b : Sys2Proof.Bank) :
    (s.completeOpen b).evu = s.evu := by unfold State.completeOpen; split <;> rfl
@[simp] theorem State.completeOpen_ste (s : State) (b : Sys2Proof.Bank) :
    (s.completeOpen b).ste = s.ste := by unfold State.completeOpen; split <;> rfl
@[simp] theorem State.completeOpen_user (s : State) (b : Sys2Proof.Bank) :
    (s.completeOpen b).user = s.user := by unfold State.completeOpen; split <;> rfl
@[simp] theorem State.completeOpen_now (s : State) (b : Sys2Proof.Bank) :
    (s.completeOpen b).now = s.now := by unfold State.completeOpen; split <;> rfl
@[simp] theorem State.completeOpen_pending (s : State) (b : Sys2Proof.Bank) :
    (s.completeOpen b).pending = s.pending := by unfold State.completeOpen; split <;> rfl

@[simp] theorem State.expireWatch_link (s : State) :
    (s.expireWatch).link = s.link := by unfold State.expireWatch; split <;> rfl
@[simp] theorem State.expireWatch_ident (s : State) :
    (s.expireWatch).ident = s.ident := by unfold State.expireWatch; split <;> rfl
@[simp] theorem State.expireWatch_ctl (s : State) :
    (s.expireWatch).ctl = s.ctl := by unfold State.expireWatch; split <;> rfl
@[simp] theorem State.expireWatch_cap (s : State) :
    (s.expireWatch).cap = s.cap := by unfold State.expireWatch; split <;> rfl
@[simp] theorem State.expireWatch_sct (s : State) :
    (s.expireWatch).sct = s.sct := by unfold State.expireWatch; split <;> rfl
@[simp] theorem State.expireWatch_stl (s : State) :
    (s.expireWatch).stl = s.stl := by unfold State.expireWatch; split <;> rfl
@[simp] theorem State.expireWatch_ste (s : State) :
    (s.expireWatch).ste = s.ste := by unfold State.expireWatch; split <;> rfl
@[simp] theorem State.expireWatch_user (s : State) :
    (s.expireWatch).user = s.user := by unfold State.expireWatch; split <;> rfl
@[simp] theorem State.expireWatch_now (s : State) :
    (s.expireWatch).now = s.now := by unfold State.expireWatch; split <;> rfl
@[simp] theorem State.expireWatch_pending (s : State) :
    (s.expireWatch).pending = s.pending := by unfold State.expireWatch; split <;> rfl

@[simp] theorem State.treatRecord_link (s : State) (o : Offer) :
    (s.treatRecord o).link = s.link := by unfold State.treatRecord; dsimp only; split_ifs <;> simp
@[simp] theorem State.treatRecord_ident (s : State) (o : Offer) :
    (s.treatRecord o).ident = s.ident := by unfold State.treatRecord; dsimp only; split_ifs <;> simp
@[simp] theorem State.treatRecord_ctl (s : State) (o : Offer) :
    (s.treatRecord o).ctl = s.ctl := by unfold State.treatRecord; dsimp only; split_ifs <;> simp
@[simp] theorem State.treatRecord_cap (s : State) (o : Offer) :
    (s.treatRecord o).cap = s.cap := by unfold State.treatRecord; dsimp only; split_ifs <;> simp
@[simp] theorem State.treatRecord_sct (s : State) (o : Offer) :
    (s.treatRecord o).sct = s.sct := by unfold State.treatRecord; dsimp only; split_ifs <;> simp
@[simp] theorem State.treatRecord_lane (s : State) (o : Offer) :
    (s.treatRecord o).lane = s.lane := by unfold State.treatRecord; dsimp only; split_ifs <;> simp
@[simp] theorem State.treatRecord_ste (s : State) (o : Offer) :
    (s.treatRecord o).ste = s.ste := by unfold State.treatRecord; dsimp only; split_ifs <;> simp
@[simp] theorem State.treatRecord_user (s : State) (o : Offer) :
    (s.treatRecord o).user = s.user := by unfold State.treatRecord; dsimp only; split_ifs <;> simp
@[simp] theorem State.treatRecord_now (s : State) (o : Offer) :
    (s.treatRecord o).now = s.now := by unfold State.treatRecord; dsimp only; split_ifs <;> simp
@[simp] theorem State.treatRecord_pending (s : State) (o : Offer) :
    (s.treatRecord o).pending = s.pending := by unfold State.treatRecord; dsimp only; split_ifs <;> simp

@[simp] theorem State.writerStep_link (s : State) :
    (s.writerStep).link = s.link := by unfold State.writerStep; dsimp only; split_ifs; split <;> simp; rfl
@[simp] theorem State.writerStep_ident (s : State) :
    (s.writerStep).ident = s.ident := by unfold State.writerStep; dsimp only; split_ifs; split <;> simp; rfl
@[simp] theorem State.writerStep_ctl (s : State) :
    (s.writerStep).ctl = s.ctl := by unfold State.writerStep; dsimp only; split_ifs; split <;> simp; rfl
@[simp] theorem State.writerStep_cap (s : State) :
    (s.writerStep).cap = s.cap := by unfold State.writerStep; dsimp only; split_ifs; split <;> simp; rfl
@[simp] theorem State.writerStep_sct (s : State) :
    (s.writerStep).sct = s.sct := by unfold State.writerStep; dsimp only; split_ifs; split <;> simp; rfl
@[simp] theorem State.writerStep_lane (s : State) :
    (s.writerStep).lane = s.lane := by unfold State.writerStep; dsimp only; split_ifs; split <;> simp; rfl
@[simp] theorem State.writerStep_ste (s : State) :
    (s.writerStep).ste = s.ste := by unfold State.writerStep; dsimp only; split_ifs; split <;> simp; rfl
@[simp] theorem State.writerStep_user (s : State) :
    (s.writerStep).user = s.user := by unfold State.writerStep; dsimp only; split_ifs; split <;> simp; rfl
@[simp] theorem State.writerStep_now (s : State) :
    (s.writerStep).now = s.now := by unfold State.writerStep; dsimp only; split_ifs; split <;> simp; rfl
@[simp] theorem State.writerStep_pending (s : State) :
    (s.writerStep).pending = s.pending := by unfold State.writerStep; dsimp only; split_ifs; split <;> simp; rfl

/-! ## The open instant -/

@[simp] theorem State.atPlace_link (s : State) (p : Nat) : (s.atPlace p).link = s.link := rfl
@[simp] theorem State.atPlace_ident (s : State) (p : Nat) : (s.atPlace p).ident = s.ident := rfl
@[simp] theorem State.atPlace_ctl (s : State) (p : Nat) : (s.atPlace p).ctl = s.ctl := rfl
@[simp] theorem State.atPlace_cap (s : State) (p : Nat) : (s.atPlace p).cap = s.cap := rfl
@[simp] theorem State.atPlace_sct (s : State) (p : Nat) : (s.atPlace p).sct = s.sct := rfl
@[simp] theorem State.atPlace_lane (s : State) (p : Nat) : (s.atPlace p).lane = s.lane := rfl
@[simp] theorem State.atPlace_stl (s : State) (p : Nat) : (s.atPlace p).stl = s.stl := rfl
@[simp] theorem State.atPlace_evu (s : State) (p : Nat) : (s.atPlace p).evu = s.evu := rfl
@[simp] theorem State.atPlace_ste (s : State) (p : Nat) : (s.atPlace p).ste = s.ste := rfl
@[simp] theorem State.atPlace_user (s : State) (p : Nat) : (s.atPlace p).user = s.user := rfl
@[simp] theorem State.atPlace_now (s : State) (p : Nat) :
    (s.atPlace p).now = s.now.map (·.upTo p) := rfl
@[simp] theorem State.atPlace_pending (s : State) (p : Nat) : (s.atPlace p).pending = s.pending := rfl

@[simp] theorem State.noteBegun_link (s b : State) : (s.noteBegun b).link = s.link := rfl
@[simp] theorem State.noteBegun_ident (s b : State) : (s.noteBegun b).ident = s.ident := rfl
@[simp] theorem State.noteBegun_ctl (s b : State) : (s.noteBegun b).ctl = s.ctl := rfl
@[simp] theorem State.noteBegun_cap (s b : State) : (s.noteBegun b).cap = s.cap := rfl
@[simp] theorem State.noteBegun_sct (s b : State) : (s.noteBegun b).sct = s.sct := rfl
@[simp] theorem State.noteBegun_lane (s b : State) : (s.noteBegun b).lane = s.lane := rfl
@[simp] theorem State.noteBegun_stl (s b : State) : (s.noteBegun b).stl = s.stl := rfl
@[simp] theorem State.noteBegun_evu (s b : State) : (s.noteBegun b).evu = s.evu := rfl
@[simp] theorem State.noteBegun_ste (s b : State) : (s.noteBegun b).ste = s.ste := rfl
@[simp] theorem State.noteBegun_user (s b : State) : (s.noteBegun b).user = s.user := rfl
@[simp] theorem State.noteBegun_pending (s b : State) : (s.noteBegun b).pending = s.pending := rfl

@[simp] theorem State.endUnit_link (s : State) (m : Moment) : (s.endUnit m).link = (s.countUnit m).link := rfl
@[simp] theorem State.endUnit_ident (s : State) (m : Moment) : (s.endUnit m).ident = (s.countUnit m).ident := rfl
@[simp] theorem State.endUnit_ctl (s : State) (m : Moment) : (s.endUnit m).ctl = (s.countUnit m).ctl := rfl
@[simp] theorem State.endUnit_cap (s : State) (m : Moment) : (s.endUnit m).cap = (s.countUnit m).cap := rfl
@[simp] theorem State.endUnit_sct (s : State) (m : Moment) : (s.endUnit m).sct = (s.countUnit m).sct := rfl
@[simp] theorem State.endUnit_lane (s : State) (m : Moment) : (s.endUnit m).lane = (s.countUnit m).lane := rfl
@[simp] theorem State.endUnit_stl (s : State) (m : Moment) : (s.endUnit m).stl = (s.countUnit m).stl := rfl
@[simp] theorem State.endUnit_evu (s : State) (m : Moment) : (s.endUnit m).evu = (s.countUnit m).evu := rfl
@[simp] theorem State.endUnit_ste (s : State) (m : Moment) : (s.endUnit m).ste = (s.countUnit m).ste := rfl
@[simp] theorem State.endUnit_user (s : State) (m : Moment) : (s.endUnit m).user = (s.countUnit m).user := rfl
@[simp] theorem State.endUnit_pending (s : State) (m : Moment) : (s.endUnit m).pending = (s.countUnit m).pending := rfl
@[simp] theorem State.endUnit_now (s : State) (m : Moment) : (s.endUnit m).now = some m.withUnit := rfl

@[simp] theorem State.sawMarker_link (s : State) : (s.sawMarker).link = s.link := rfl
@[simp] theorem State.sawMarker_ident (s : State) : (s.sawMarker).ident = s.ident := rfl
@[simp] theorem State.sawMarker_ctl (s : State) : (s.sawMarker).ctl = s.ctl := rfl
@[simp] theorem State.sawMarker_cap (s : State) : (s.sawMarker).cap = s.cap := rfl
@[simp] theorem State.sawMarker_sct (s : State) : (s.sawMarker).sct = s.sct := rfl
@[simp] theorem State.sawMarker_lane (s : State) : (s.sawMarker).lane = s.lane := rfl
@[simp] theorem State.sawMarker_stl (s : State) : (s.sawMarker).stl = s.stl := rfl
@[simp] theorem State.sawMarker_evu (s : State) : (s.sawMarker).evu = s.evu := rfl
@[simp] theorem State.sawMarker_ste (s : State) : (s.sawMarker).ste = s.ste := rfl
@[simp] theorem State.sawMarker_user (s : State) : (s.sawMarker).user = s.user := rfl
@[simp] theorem State.sawMarker_now (s : State) :
    (s.sawMarker).now = s.now.map (fun m => { m with marker := true }) := rfl
@[simp] theorem State.sawMarker_pending (s : State) : (s.sawMarker).pending = s.pending := rfl

/-! ## Units -/

@[simp] theorem State.framingError_link (s : State) :
    (s.framingError).link = { s.link with headerErrors := satInc s.link.headerErrors, rx := .listen } := rfl
@[simp] theorem State.framingError_ident (s : State) : (s.framingError).ident = s.ident := rfl
@[simp] theorem State.framingError_ctl (s : State) : (s.framingError).ctl = s.ctl := rfl
@[simp] theorem State.framingError_cap (s : State) : (s.framingError).cap = s.cap := rfl
@[simp] theorem State.framingError_sct (s : State) : (s.framingError).sct = s.sct := rfl
@[simp] theorem State.framingError_lane (s : State) : (s.framingError).lane = s.lane := rfl
@[simp] theorem State.framingError_stl (s : State) : (s.framingError).stl = s.stl := rfl
@[simp] theorem State.framingError_evu (s : State) : (s.framingError).evu = s.evu := rfl
@[simp] theorem State.framingError_ste (s : State) : (s.framingError).ste = s.ste := rfl
@[simp] theorem State.framingError_user (s : State) : (s.framingError).user = s.user := rfl
@[simp] theorem State.framingError_now (s : State) : (s.framingError).now = s.now := rfl
@[simp] theorem State.framingError_pending (s : State) : (s.framingError).pending = s.pending := rfl

@[simp] theorem State.abandonReply_link (s : State) (r : Reply) (n : Nat) :
    (s.abandonReply r n).link = { s.link with rx := .listen } := rfl
@[simp] theorem State.abandonReply_ident (s : State) (r : Reply) (n : Nat) :
    (s.abandonReply r n).ident = s.ident := rfl
@[simp] theorem State.abandonReply_ctl (s : State) (r : Reply) (n : Nat) : (s.abandonReply r n).ctl = s.ctl := rfl
@[simp] theorem State.abandonReply_cap (s : State) (r : Reply) (n : Nat) : (s.abandonReply r n).cap = s.cap := rfl
@[simp] theorem State.abandonReply_sct (s : State) (r : Reply) (n : Nat) : (s.abandonReply r n).sct = s.sct := rfl
@[simp] theorem State.abandonReply_lane (s : State) (r : Reply) (n : Nat) : (s.abandonReply r n).lane = s.lane := rfl
@[simp] theorem State.abandonReply_stl (s : State) (r : Reply) (n : Nat) : (s.abandonReply r n).stl = s.stl := rfl
@[simp] theorem State.abandonReply_evu (s : State) (r : Reply) (n : Nat) :
    (s.abandonReply r n).evu = s.evu.push (s.ctl.mode = .reset) .replyTruncated (r.truncatedDetail n) s.lane.frame :=
  rfl
@[simp] theorem State.abandonReply_ste (s : State) (r : Reply) (n : Nat) : (s.abandonReply r n).ste = s.ste := rfl
@[simp] theorem State.abandonReply_user (s : State) (r : Reply) (n : Nat) : (s.abandonReply r n).user = s.user := rfl
@[simp] theorem State.abandonReply_now (s : State) (r : Reply) (n : Nat) : (s.abandonReply r n).now = s.now := rfl
@[simp] theorem State.abandonReply_pending (s : State) (r : Reply) (n : Nat) :
    (s.abandonReply r n).pending = s.pending := rfl

@[simp] theorem State.beginRequest_ident (s : State) :
    (s.beginRequest).ident = s.ident := by unfold State.beginRequest; split <;> rfl
@[simp] theorem State.beginRequest_ctl (s : State) :
    (s.beginRequest).ctl = s.ctl := by unfold State.beginRequest; split <;> rfl
@[simp] theorem State.beginRequest_cap (s : State) :
    (s.beginRequest).cap = s.cap := by unfold State.beginRequest; split <;> rfl
@[simp] theorem State.beginRequest_sct (s : State) :
    (s.beginRequest).sct = s.sct := by unfold State.beginRequest; split <;> rfl
@[simp] theorem State.beginRequest_lane (s : State) :
    (s.beginRequest).lane = s.lane := by unfold State.beginRequest; split <;> rfl
@[simp] theorem State.beginRequest_stl (s : State) :
    (s.beginRequest).stl = s.stl := by unfold State.beginRequest; split <;> rfl
@[simp] theorem State.beginRequest_evu (s : State) :
    (s.beginRequest).evu = s.evu := by unfold State.beginRequest; split <;> rfl
@[simp] theorem State.beginRequest_ste (s : State) :
    (s.beginRequest).ste = s.ste := by unfold State.beginRequest; split <;> rfl
@[simp] theorem State.beginRequest_user (s : State) :
    (s.beginRequest).user = s.user := by unfold State.beginRequest; split <;> rfl
@[simp] theorem State.beginRequest_now (s : State) :
    (s.beginRequest).now = s.now := by unfold State.beginRequest; split <;> rfl
@[simp] theorem State.beginRequest_pending (s : State) :
    (s.beginRequest).pending = s.pending := by unfold State.beginRequest; split <;> rfl

@[simp] theorem State.endRun_ident (s : State) :
    (s.endRun).ident = s.ident := by unfold State.endRun; dsimp only; split_ifs <;> simp
@[simp] theorem State.endRun_cap (s : State) :
    (s.endRun).cap = s.cap := by unfold State.endRun; dsimp only; split_ifs <;> simp
@[simp] theorem State.endRun_sct (s : State) :
    (s.endRun).sct = s.sct := by unfold State.endRun; dsimp only; split_ifs <;> simp
@[simp] theorem State.endRun_lane (s : State) :
    (s.endRun).lane = s.lane := by unfold State.endRun; dsimp only; split_ifs <;> simp
@[simp] theorem State.endRun_stl (s : State) :
    (s.endRun).stl = s.stl := by unfold State.endRun; dsimp only; split_ifs <;> simp
@[simp] theorem State.endRun_ste (s : State) :
    (s.endRun).ste = s.ste := by unfold State.endRun; dsimp only; split_ifs <;> simp
@[simp] theorem State.endRun_user (s : State) :
    (s.endRun).user = s.user := by unfold State.endRun; dsimp only; split_ifs <;> simp
@[simp] theorem State.endRun_pending (s : State) :
    (s.endRun).pending = s.pending := by unfold State.endRun; dsimp only; split_ifs <;> simp

end Sys2Proof.Machine
end

