-- ==== Sys2Proof/Laws/Ops.lean ====
section
/-! SUPPORT. For each shared operation one lemma that says everything it can do. -/

namespace Sys2Proof.Machine

open Sys2Proof (Instr LinkUnit Bank)

/-! ## Events -/

/-- A raised event is ignored, lost or queued (R142). -/
theorem Events.push_cases (e : Events) (inReset : Bool) (k : EventKind) (d f : BitVec 16) :
    ((inReset = true ∨ e.enable.getLsbD k.code = false) ∧ e.push inReset k d f = e) ∨
    (inReset = false ∧ e.enable.getLsbD k.code = true ∧ 16 ≤ e.queue.length ∧
      e.push inReset k d f = { e with lost := satInc e.lost }) ∨
    (inReset = false ∧ e.enable.getLsbD k.code = true ∧ e.queue.length < 16 ∧
      e.push inReset k d f =
        { e with queue := e.queue ++ [⟨k, d, f, e.serial⟩], serial := e.serial + 1 }) := by
  by_cases h : inReset = true ∨ e.enable.getLsbD k.code = false
  · exact .inl ⟨h, by rcases h with h | h <;> simp [Events.push, h]⟩
  · simp only [not_or, Bool.not_eq_true, Bool.not_eq_false] at h
    by_cases hl : 16 ≤ e.queue.length
    · exact .inr (.inl ⟨h.1, h.2, hl, by simp [Events.push, h.1, h.2, hl]⟩)
    · exact .inr (.inr ⟨h.1, h.2, by omega, by simp [Events.push, h.1, h.2, hl]⟩)

/-- Raising touches the event unit only. -/
theorem State.raise_eq (s : State) (k : EventKind) (d : BitVec 16) :
    s.raise k d = { s with evu := s.evu.push (s.ctl.mode = .reset) k d s.lane.frame } := rfl

/-- A saturating 8-bit counter. -/
theorem satInc_eight (x : BitVec 8) : satInc x = if x = 255 then 255 else x + 1 := by
  by_cases h : x = 255
  · subst h; rfl
  · rw [if_neg h]; exact if_neg h

/-- A saturating 16-bit counter. -/
theorem satInc_sixteen (x : BitVec 16) : satInc x = if x = 65535 then 65535 else x + 1 := by
  by_cases h : x = 65535
  · subst h; rfl
  · rw [if_neg h]; exact if_neg h

/-! ## Requests -/

/-- What it is to hear a request. -/
theorem State.hears_iff {s : State} {r : Request} :
    s.hears r ↔ ∃ k, s.link.rx = .data r.hdr k ∧ s.ctl.mode.frames = true ∧
      r.words.length = r.hdr.blockWords := by
  unfold State.hears RxState.followed
  cases s.link.rx with
  | data h k =>
    simp only [Option.some.injEq, RxState.data.injEq]
    constructor
    · rintro ⟨rfl, h1, h2⟩; exact ⟨k, ⟨rfl, rfl⟩, h1, h2⟩
    · rintro ⟨_, ⟨rfl, rfl⟩, h1, h2⟩; exact ⟨rfl, h1, h2⟩
  | _ => simp

/-- The acceptance point exists exactly for a request that the node hears and that belongs to the row. -/
theorem State.atAcceptance_eq_some {s : State} {belongs : Header → Bool} {b : Block} {r : Request} :
    s.atAcceptance belongs b = some r ↔ s.hears r ∧ belongs r.hdr = true ∧ b = r.block := by
  rw [State.hears_iff]
  unfold State.atAcceptance Request.block
  cases hx : s.link.rx with
  | data h k =>
    simp only [Option.ite_none_right_eq_some, Option.some.injEq, RxState.data.injEq, Bool.and_eq_true,
      decide_eq_true_eq]
    constructor
    · rintro ⟨⟨⟨hf, hb⟩, hl⟩, rfl⟩; exact ⟨⟨k, ⟨rfl, rfl⟩, hf, hl⟩, hb, rfl⟩
    · rintro ⟨⟨k', ⟨rfl, rfl⟩, hf, hl⟩, hb, rfl⟩; exact ⟨⟨⟨hf, hb⟩, hl⟩, rfl⟩
  | _ => simp

/-- A request row judges a request that belongs to it. -/
theorem State.takeRequest_of_hears {s : State} {belongs : Header → Bool} {r : Request}
    {apply : Request → State → State} (h : s.hears r) (hb : belongs r.hdr = true) :
    s.takeRequest belongs r.block apply = .next (s.atPoint.judge (apply r) r) := by
  have := State.atAcceptance_eq_some.2 ⟨h, hb, rfl⟩
  simp [State.takeRequest, this]

/-- A request row changes nothing, or judges a request that the node hears. -/
theorem State.takeRequest_cases (s : State) (belongs : Header → Bool) (b : Block)
    (apply : Request → State → State) :
    s.takeRequest belongs b apply = .next s ∨
      ∃ r, s.hears r ∧ belongs r.hdr = true ∧ b = r.block ∧
        s.takeRequest belongs b apply = .next (s.atPoint.judge (apply r) r) := by
  cases h : s.atAcceptance belongs b with
  | none => exact .inl (by simp [State.takeRequest, h])
  | some r =>
    obtain ⟨hh, hb, rfl⟩ := State.atAcceptance_eq_some.1 h
    exact .inr ⟨r, hh, hb, rfl, State.takeRequest_of_hears hh hb⟩

/-- A request that is no broadcast is judged by R16. -/
theorem State.judge_addressed {s : State} {apply : State → State} {r : Request}
    (h : r.hdr.addressing ≠ .broadcast) : s.judge apply r = s.judgeAddressed apply r := by
  simp [State.judge, h]

/-- A broadcast is judged by R22. -/
theorem State.judge_broadcast {s : State} {apply : State → State} {r : Request}
    (h : r.hdr.addressing = .broadcast) :
    s.judge apply r = (s.withRx .listen).settleBroadcast apply r := by
  simp [State.judge, h]

/-- Steps 8 to 16 stop a request or let it pass; they never accept. -/
theorem State.laterSteps_cases (s : State) (r : Request) :
    s.laterSteps r = none ∨ (∃ why, why ≠ .dataCheck ∧ s.laterSteps r = some (.refuse why)) ∨
      s.laterSteps r = some (.defer 15) ∨ s.laterSteps r = some (.defer 2) := by
  have pass : ∀ {a b : Option Verdict},
      (a = none ∨ (∃ why, why ≠ .dataCheck ∧ a = some (.refuse why)) ∨ a = some (.defer 15) ∨
        a = some (.defer 2)) →
      (b = none ∨ (∃ why, why ≠ .dataCheck ∧ b = some (.refuse why)) ∨ b = some (.defer 15) ∨
        b = some (.defer 2)) →
      (a.or b = none ∨ (∃ why, why ≠ .dataCheck ∧ a.or b = some (.refuse why)) ∨
        a.or b = some (.defer 15) ∨ a.or b = some (.defer 2)) := by
    rintro a b (rfl | ⟨why, hw, rfl⟩ | rfl | rfl) hb
    · simpa using hb
    · exact .inr (.inl ⟨why, hw, rfl⟩)
    · exact .inr (.inr (.inl rfl))
    · exact .inr (.inr (.inr rfl))
  unfold State.laterSteps
  refine pass ?_ (pass ?_ (pass ?_ (pass ?_ (pass ?_ (pass ?_ (pass ?_ (pass ?_ ?_)))))))
  · unfold State.stepLegal
    cases s.ctl.mode <;>
      simp only [Header.legalInSelftest, State.legalInSetup, State.legalInRun] <;>
      (try split_ifs) <;> simp
  · unfold Header.stepOrder; split_ifs <;> simp
  · unfold State.stepCount; split_ifs <;> simp
  · unfold Header.stepAddress; split_ifs <;> simp
  · unfold Header.stepEnables; split_ifs <;> simp
  · unfold Request.stepValue; split_ifs <;> simp
  · unfold State.stepLocked
    simp only []
    split_ifs <;> simp
  · unfold State.stepPrecondition
    split_ifs
    · simp
    · split
      · split_ifs <;> simp
      · simp
  · unfold State.stepBusy
    split
    · split_ifs <;> simp
    · simp

/-- The verdict on a request that passes steps 4 to 7 is that of the steps from 8 on. -/
theorem State.verdict_of_later {s : State} {r : Request}
    (h4 : r.hdr.command.hasBlock = true → dataCheck r.words = r.check)
    (h5 : r.hdr.addressing = .direct → r.hdr.command.hasBlock = true → s.link.mem.recognises r = false)
    (h6 : r.hdr.command.unused = false) (h7 : r.hdr.addressing = .chainHead → r.hdr.chainAllowed = true) :
    s.verdict r = (s.laterSteps r).getD .accept := by
  have h4' : r.checkFails = false := by
    unfold Request.checkFails
    cases hb : r.hdr.command.hasBlock <;> simp [h4, hb]
  have h5' : (r.hdr.remembered && s.link.mem.recognises r) = false := by
    unfold Header.remembered
    by_cases ha : r.hdr.addressing = .direct
    · cases hb : r.hdr.command.hasBlock
      · simp
      · simp [h5 ha hb]
    · simp [ha]
  have h7' : (decide (r.hdr.addressing = .chainHead) && !r.hdr.chainAllowed) = false := by
    by_cases ha : r.hdr.addressing = .chainHead
    · simp [h7 ha]
    · simp [ha]
  unfold State.verdict
  simp [h4', h5', h6, h7']

/-- A DIRECT request heard with a fresh data block is judged by the steps from 8 on, in any state that holds the
reply memory of its acceptance point. -/
theorem State.verdict_of_fresh {s u : State} {r : Request} (h : s.hearsFresh r)
    (hm : u.link.mem = s.atPoint.link.mem) :
    u.verdict r = (u.laterSteps r).getD .accept := by
  obtain ⟨-, ha, hb, hc, hr⟩ := h
  refine State.verdict_of_later (fun _ => hc) (fun _ _ => hm ▸ hr) ?_ (fun h => by simp [ha] at h)
  revert hb
  cases r.hdr.command <;> simp [Command.hasBlock, Command.unused]

/-- A refused or deferred request touches DATA_ERRORS, TABLE_CHECK or a bank at most (R17). -/
theorem State.settle_cases (s : State) (apply : State → State) (r : Request) (v : Verdict) :
    (v = .accept ∧ s.settle apply r v = (apply (s.recordValidation r.hdr)).remember r) ∨
    (v = .refuse .dataCheck ∧ s.settle apply r v = s.dataCheckFailed r.hdr) ∨
    (v = .refuse .badTable ∧ s.settle apply r v = s.recordValidation r.hdr) ∨
    (v = .defer 2 ∧ s.settle apply r v = s.openNeeded r.hdr) ∨
    (v ≠ .accept ∧ s.settle apply r v = s) := by
  cases v with
  | accept => exact .inl ⟨rfl, rfl⟩
  | duplicate => exact .inr (.inr (.inr (.inr ⟨by simp, rfl⟩)))
  | defer n =>
    by_cases h : n = 2
    · subst h; exact .inr (.inr (.inr (.inl ⟨rfl, rfl⟩)))
    · refine .inr (.inr (.inr (.inr ⟨by simp, ?_⟩)))
      unfold State.settle
      split <;> simp_all
  | refuse why =>
    by_cases hd : why = .dataCheck
    · subst hd; exact .inr (.inl ⟨rfl, rfl⟩)
    · by_cases hb : why = .badTable
      · subst hb; exact .inr (.inr (.inl ⟨rfl, rfl⟩))
      · refine .inr (.inr (.inr (.inr ⟨by simp, ?_⟩)))
        cases why <;> first | rfl | simp_all

/-- Validation touches TABLE_CHECK only (R83). -/
theorem State.recordValidation_eq (s : State) (h : Header) :
    ∃ check, s.recordValidation h = { s with sct := { s.sct with check := check } } := by
  unfold State.recordValidation
  split
  · exact ⟨_, rfl⟩
  · exact ⟨s.sct.check, rfl⟩

/-- A request at step 16 touches the page states only (R122). -/
theorem State.openNeeded_eq (s : State) (h : Header) :
    ∃ b0 b1, s.openNeeded h = { s with stl := { s.stl with bank0 := b0, bank1 := b1 } } := by
  unfold State.openNeeded Store.openForDeferred Store.startOpen Store.setBank
  split
  · split_ifs
    · exact ⟨s.stl.bank0, s.stl.bank1, rfl⟩
    · split
      · exact ⟨_, s.stl.bank1, rfl⟩
      · exact ⟨s.stl.bank0, _, rfl⟩
  · exact ⟨s.stl.bank0, s.stl.bank1, rfl⟩

/-! ## Resets, stops, replies -/

/-- The node leaves RESET exactly when it is there and no cause holds (R44). -/
theorem State.tryLeaveReset_cases (s : State) (mid : BitVec 4) :
    (s.ctl.mode = .reset ∧ s.resetHeld = false ∧
      s.tryLeaveReset mid = s.testBegun (s.cap.releaseFeeds mid)) ∨
    ((s.ctl.mode ≠ .reset ∨ s.resetHeld = true) ∧ s.tryLeaveReset mid = s) := by
  by_cases h : s.ctl.mode = .reset ∧ s.resetHeld = false
  · exact .inl ⟨h.1, h.2, by simp [State.tryLeaveReset, h.1, h.2]; rfl⟩
  · refine .inr ⟨?_, ?_⟩
    · by_cases hm : s.ctl.mode = .reset
      · right; simpa [hm] using h
      · exact .inl hm
    · unfold State.tryLeaveReset
      rw [if_neg]
      simpa using h

/-- The release of the feed receivers (R63). -/
theorem Capture.releaseFeeds_released (c : Capture) (mid : BitVec 4) : c.Released (c.releaseFeeds mid) mid := by
  refine ⟨rfl, fun f hf => ?_⟩
  simp [Capture.feed, Capture.releaseFeeds, hf]

/-- Leaving RUN by a stop with no commit pending, and with one (R92). -/
theorem State.commitOnStop_cases (s : State) :
    (s.sct.commit = none ∧ s.commitOnStop = s) ∨
      (s.sct.commit.isSome = true ∧ s.commitOnStop = s.swapTables .stop) := by
  unfold State.commitOnStop
  cases h : s.sct.commit <;> simp

/-- What follows the end of a reply (R48, R51). -/
theorem State.endReply_cases (s : State) (r : Reply) :
    (r.after = .nothing ∧ s.endReply r = s.withRx .listen) ∨
    (r.after = .enterQuiet ∧ s.endReply r = (s.withRx .listen).goQuiet) ∨
    (r.after = .softReset ∧ s.endReply r = (s.withRx .listen).beginReset .soft) := by
  unfold State.endReply State.afterReply
  cases r.after <;> simp

/-- What a unit cuts short is a reply or a request (R4, R25). -/
theorem State.cutShort_cases (s : State) :
    (∃ r sent, s.link.rx.reply? = some (r, sent) ∧ s.cutShort = s.abandonReply r sent) ∨
    (s.link.rx.reply? = none ∧ s.cutShort = s.framingError) := by
  unfold State.cutShort
  cases h : s.link.rx.reply? with
  | none => exact .inr ⟨rfl, rfl⟩
  | some p => exact .inl ⟨p.1, p.2, rfl, rfl⟩

/-! ## The node's own events -/

/-- The log writer's step of an instant is void, or treats the oldest record (R126). -/
theorem State.writerStep_cases (s : State) :
    ((s.stl.writerDue = false ∨ s.ctl.mode = .reset ∨ s.stl.queue = []) ∧
      s.writerStep = { s with stl := s.stl.stepTaken }) ∨
    (∃ o rest, s.stl.writerDue = true ∧ s.ctl.mode ≠ .reset ∧ s.stl.queue = o :: rest ∧
      s.writerStep = { s with stl := s.stl.stepTaken }.treatRecord o) := by
  unfold State.writerStep
  dsimp only
  split_ifs with h
  · simp only [ne_eq, decide_not, Bool.and_eq_true, Bool.not_eq_true', decide_eq_false_iff_not] at h
    cases hq : s.stl.queue with
    | nil => exact .inl ⟨.inr (.inr rfl), rfl⟩
    | cons o rest => exact .inr ⟨o, rest, h.1, h.2, rfl, rfl⟩
  · refine .inl ⟨?_, rfl⟩
    by_cases hw : s.stl.writerDue = true
    · right; left; simpa [hw] using h
    · left; simpa using hw

/-- A page open whose units have passed completes; any other bank stays (R119). -/
theorem State.completeOpen_cases (s : State) (b : Bank) :
    (∃ q, s.stl.bank b = .opening q 0 ∧ s.completeOpen b = { s with stl := s.stl.setBank b (.opened q) }) ∨
    ((∀ q, s.stl.bank b ≠ .opening q 0) ∧ s.completeOpen b = s) := by
  unfold State.completeOpen
  split
  · rename_i q h; exact .inl ⟨q, h, rfl⟩
  · rename_i h; exact .inr ⟨h, rfl⟩

/-- The frame watch at the end of an instant (R114). -/
theorem State.expireWatch_cases (s : State) :
    (s.watchRuns = true ∧ s.lane.watchLimit ≤ s.lane.watchCount ∧
      s.expireWatch =
        { s.raise .laneSilent s.lane.silentDetail with lane := { s.lane with watchExpired := true } }) ∨
    ((s.watchRuns = false ∨ s.lane.watchCount < s.lane.watchLimit) ∧ s.expireWatch = s) := by
  unfold State.expireWatch
  split_ifs with h
  · simp only [Bool.and_eq_true, decide_eq_true_eq] at h
    exact .inl ⟨h.1, h.2, rfl⟩
  · refine .inr ⟨?_, rfl⟩
    by_cases hr : s.watchRuns = true
    · right; simpa [hr] using h
    · left; simpa using hr

/-- The running phase goes on, or ends (R151). -/
theorem State.endPhaseIfDone_cases (s : State) (failed : List FailedWord) :
    (s.ste.phase ≠ .idle ∧ s.ste.phase.length ≤ s.ste.units ∧ s.endPhaseIfDone failed = s.endPhase failed) ∨
    ((s.ste.phase = .idle ∨ s.ste.units < s.ste.phase.length) ∧ s.endPhaseIfDone failed = s) := by
  unfold State.endPhaseIfDone SelfTest.phaseDone
  split_ifs with h
  · simp only [ne_eq, decide_not, Bool.and_eq_true, Bool.not_eq_true', decide_eq_false_iff_not,
      decide_eq_true_eq] at h
    exact .inl ⟨h.1, h.2, rfl⟩
  · refine .inr ⟨?_, rfl⟩
    by_cases hp : s.ste.phase = .idle
    · exact .inl hp
    · right; simpa [hp] using h

/-- A request that stands at its acceptance point is judged; nothing else happens (R2). -/
theorem State.judgeWaiting_cases (s : State) :
    (∃ h k, s.link.rx = .data h k ∧ s.ctl.mode.frames = true ∧ h.command.hasBlock = false ∧
      s.judgeWaiting = s.judge (applyNoBlock ⟨h, [], 0⟩) ⟨h, [], 0⟩) ∨ s.judgeWaiting = s := by
  unfold State.judgeWaiting
  split
  · rename_i h k hx
    split_ifs with hc
    · simp only [Bool.and_eq_true, Bool.not_eq_true'] at hc
      exact .inl ⟨h, k, hx, hc.1, hc.2, rfl⟩
    · exact .inr rfl
  · exact .inr rfl

/-! ## Instants -/

/-- Up to step 6 the node takes no event of its own (R60). -/
theorem State.takeOwn_early (s : State) {p : Nat} (h : p ≤ 60) : s.takeOwn p = s := by
  unfold State.takeOwn
  simp [show ¬60 < p by omega, show ¬70 < p by omega, show ¬80 < p by omega, show ¬81 < p by omega,
    show ¬82 < p by omega, show ¬83 < p by omega]

/-- Before step 7 the node takes the log writer's step (R60, R126). -/
theorem State.takeOwn_seventy (s : State) : s.takeOwn 70 = s.writerStep := rfl

/-- All of the node's own events of an instant, in their order (R60, R61). -/
theorem State.takeOwn_all (s : State) :
    s.takeOwn 90 =
      (((s.writerStep.judgeWaiting.completeOpen .bank0).completeOpen .bank1).expireWatch).endPhaseIfDone [] := rfl

/-- The open instant ends (R60, R148); without one nothing happens. -/
theorem State.close_cases (s : State) :
    (s.now = none ∧ s.close = s) ∨
    (∃ m, s.now = some m ∧
      s.close = { s.takeOwn 90 with
        now := none, evu := { (s.takeOwn 90).evu with alertn := (s.takeOwn 90).alertLow } }) := by
  unfold State.close
  cases h : s.now with
  | none => exact .inl ⟨rfl, by simp⟩
  | some m => exact .inr ⟨m, rfl, by simp⟩

/-- After an instant has ended none is open. -/
@[simp] theorem State.close_now (s : State) : s.close.now = none := by
  rcases s.close_cases with ⟨h, e⟩ | ⟨m, -, e⟩ <;> rw [e]
  exact h

/-- An event belongs to the open instant, or begins another one (R60). -/
theorem State.reach_cases (s : State) (p : Nat) :
    (∃ m, s.now = some m ∧ m.admits p = true ∧
      s.reach p = { s.takeOwn p with now := some { m with place := p } }) ∨
    ((∀ m, s.now = some m → m.admits p = false) ∧
      s.reach p = { s.close with now := some (Moment.fresh p) }) := by
  unfold State.reach
  cases h : s.now with
  | none => exact .inr ⟨by simp, by simp⟩
  | some m =>
    cases ha : m.admits p
    · exact .inr ⟨by simpa using ha, by simp [ha]⟩
    · exact .inl ⟨m, rfl, ha, by simp [ha]⟩

/-- A unit ends at the open instant, or at one of its own (R1, R60). -/
theorem State.openUnit_cases (s : State) (p : Nat) :
    (∃ m, s.now = some m ∧ m.awaits p = true ∧ s.openUnit p = s.endUnit m) ∨
    ((∀ m, s.now = some m → m.awaits p = false) ∧ s.openUnit p = s.close.endUnit (Moment.fresh 10)) := by
  unfold State.openUnit
  cases hn : s.now with
  | none => exact .inr ⟨by simp, rfl⟩
  | some m =>
    cases ha : m.awaits p
    · exact .inr ⟨by simpa using ha, by simp [Option.filter, ha]⟩
    · exact .inl ⟨m, rfl, ha, by simp [Option.filter, ha]⟩

/-- A unit that ends at an instant counts for every timed count that has not begun at it. -/
theorem Moment.counts_iff (m : Moment) (c : TimedCount) : m.counts c = true ↔ c ∉ m.begun := by
  simp [Moment.counts]

/-- At an instant of its own a unit counts for every timed count. -/
@[simp] theorem Moment.fresh_counts (p : Nat) (c : TimedCount) : (Moment.fresh p).counts c = true := rfl

/-- Noting the counts that an event has begun changes the open instant only, and adds to it those that run after the event
and did not before. -/
theorem State.noteBegun_cases (s b : State) :
    ∃ cs : List TimedCount, (∀ c, c ∈ cs ↔ s.runs c = true ∧ b.runs c = false) ∧
      s.noteBegun b = { s with now := s.now.map (·.begins cs) } := by
  refine ⟨_, fun c => ?_, rfl⟩
  rcases c with (_ | _) | _ | _ <;> simp

/-- The fields of the instant at which a unit ends. -/
@[simp] theorem Moment.upTo_place (m : Moment) (p : Nat) : (m.upTo p).place = max m.place p := rfl
@[simp] theorem Moment.upTo_unit (m : Moment) (p : Nat) : (m.upTo p).unit = m.unit := rfl
@[simp] theorem Moment.upTo_marker (m : Moment) (p : Nat) : (m.upTo p).marker = m.marker := rfl
@[simp] theorem Moment.withUnit_place (m : Moment) : m.withUnit.place = max m.place 10 := rfl
@[simp] theorem Moment.withUnit_unit (m : Moment) : m.withUnit.unit = true := rfl
@[simp] theorem Moment.withUnit_marker (m : Moment) : m.withUnit.marker = m.marker := rfl
@[simp] theorem Moment.upTo_begun (m : Moment) (p : Nat) : (m.upTo p).begun = m.begun := rfl
@[simp] theorem Moment.withUnit_begun (m : Moment) : m.withUnit.begun = m.begun := rfl

/-! ## Units -/

/-- A BEACON is counted; the 64th of a run begins a link reset (R54, R55). -/
theorem State.countBeacon_cases (s : State) :
    let c : State := { s with link := { s.link with beacons := satInc s.link.beacons } }
    (s.link.beacons = 63 ∧ s.countBeacon = c.beginReset .link) ∨ (s.link.beacons ≠ 63 ∧ s.countBeacon = c) := by
  intro c
  unfold State.countBeacon
  split_ifs with h
  · exact .inl ⟨h, rfl⟩
  · exact .inr ⟨h, rfl⟩

/-- The end of a beacon run of fewer than 64 units (R50, R54, R56). -/
theorem State.endRun_cases (s : State) :
    let r := { s with link := { s.link with beacons := 0 } }.atPlace 20
    (s.ctl.mode = .quiet ∧ 4 ≤ s.link.beacons.toNat ∧ s.link.beacons.toNat ≤ 7 ∧
      s.endRun = { r with ctl := { r.ctl with mode := .setup } }) ∨
    ((s.ctl.mode = .setup ∨ s.ctl.mode = .run) ∧ 8 ≤ s.link.beacons.toNat ∧
      s.endRun = r.raise .beaconStray (octets2 (BitVec.ofNat 8 s.ctl.mode.code) s.link.beacons)) ∨
    s.endRun = r := by
  intro r
  unfold State.endRun
  dsimp only
  split_ifs with h1 h2
  · exact .inl ⟨h1.1, h1.2.1, h1.2.2, rfl⟩
  · exact .inr (.inl ⟨h2.1, h2.2, rfl⟩)
  · exact .inr (.inr rfl)

/-- Reset causes end with the unit, or none does (R44, R55, R163). -/
theorem State.endCauses_cases (s : State) (u : LinkUnit) (mid : BitVec 4) :
    (((u ≠ .beacon ∧ 64 ≤ s.link.beacons.toNat) ∨ s.ctl.softStep = some 0) ∧
      s.endCauses u mid =
        ({ s with
          link := { s.link with
            beacons := if u ≠ LinkUnit.beacon ∧ 64 ≤ s.link.beacons.toNat then 0 else s.link.beacons }
          ctl := { s.ctl with
            softStep := if s.ctl.softStep = some 0 then none else s.ctl.softStep } }.tryLeaveReset mid).atPlace 13) ∨
    ((u = .beacon ∨ s.link.beacons.toNat < 64) ∧ s.ctl.softStep ≠ some 0 ∧ s.endCauses u mid = s) := by
  unfold State.endCauses
  by_cases h : (u ≠ .beacon ∧ 64 ≤ s.link.beacons.toNat) ∨ s.ctl.softStep = some 0
  · refine .inl ⟨h, ?_⟩
    simp only [Bool.or_eq_true, Bool.and_eq_true, decide_eq_true_eq]
    rw [if_pos h]
  · refine .inr ⟨?_, fun he => h (.inr he), ?_⟩
    · by_cases hu : u = .beacon
      · exact .inl hu
      · exact .inr (by by_contra hb; exact h (.inl ⟨hu, by omega⟩))
    · simp only [Bool.or_eq_true, Bool.and_eq_true, decide_eq_true_eq]
      rw [if_neg h]

/-- The open instant takes the unit that is to pass, or has ended (log entry 23). -/
theorem State.forUnit_cases (s : State) :
    (∃ m, s.now = some m ∧ m.awaits 70 = true ∧ m.begun = [] ∧ s.forUnit = s) ∨
    ((∀ m, s.now = some m → m.awaits 70 = false ∨ m.begun ≠ []) ∧ s.forUnit = s.close) := by
  unfold State.forUnit
  cases hn : s.now with
  | none => exact .inr ⟨by simp, by simp⟩
  | some m => cases ha : m.awaits 70 <;> cases hb : m.begun <;> simp [ha, hb]

/-- One unit passes, unless the link stalls (log entry 4). -/
theorem State.passUnit_cases (s : State) (mid : BitVec 4) :
    (s.forUnit.link.rx.stalled = true ∧ s.passUnit mid = s.forUnit) ∨
    (s.forUnit.link.rx.stalled = false ∧
      s.passUnit mid = s.forUnit.receive s.forUnit.link.rx.filler mid) := by
  unfold State.passUnit
  cases h : s.forUnit.link.rx.stalled <;> simp [h]

/-- A unit acts at step 7 at the latest, so the instant that takes it still comes to the link's step (R60). -/
theorem State.unitPlace_le (s : State) (u : LinkUnit) : s.unitPlace u ≤ 70 := by
  unfold State.unitPlace
  split_ifs <;> omega

/-- A link step takes the link to place 70 when a unit cuts something short or a START acts there only (R60). -/
theorem State.linkStep_cases (s : State) (u : LinkUnit) (p : Nat) :
    (s.link.rx.cutBy u = true ∧
      s.linkStep u p = if u = .start then (s.reach 70).cutShort.beginRequest else (s.reach 70).cutShort) ∨
    (s.link.rx.cutBy u = false ∧ u = .start ∧ p = 70 ∧ s.linkStep u p = (s.reach 70).beginRequest) ∨
    (s.link.rx.cutBy u = false ∧ u = .start ∧ p ≠ 70 ∧ s.linkStep u p = s.beginRequest) ∨
    (s.link.rx.cutBy u = false ∧ u ≠ .start ∧ s.linkStep u p = s) := by
  unfold State.linkStep
  cases h : s.link.rx.cutBy u <;> by_cases hu : u = .start <;> by_cases hp : p = 70 <;> simp [hu, hp]

/-- Units pass one by one. -/
theorem State.passUnits_succ (s : State) (n : Nat) : s.passUnits (n + 1) = (s.passUnit 0).passUnits n := rfl

/-- Units stop passing when `going` no longer holds. -/
theorem State.passWhile_of_not {going : State → Bool} {mid : BitVec 4} {s : State} (n : Nat)
    (h : going s = false) : State.passWhile going mid n s = s := by
  cases n <;> simp [State.passWhile, h]

/-! ## Lane, feeds, log -/

/-- A lane fault of a node that is not muted, and of one that is (R106, R107). -/
theorem State.laneFault_cases (s : State) (k : LaneFault) (bit slot : Nat) :
    (s.lane.muted = false ∧
      s.laneFault k bit slot =
        { s with
          lane := { s.lane with muted := true, fault := ⟨k, bit, slot, s.lane.frame⟩, faultCount := 1 } }.raise
          k.event (faultDetail bit slot)) ∨
    (s.lane.muted = true ∧
      s.laneFault k bit slot =
        { s with
          lane := { s.lane with
            faultCount := satInc s.lane.faultCount
            fault := if s.lane.fault.kind = .none then ⟨k, bit, slot, s.lane.frame⟩ else s.lane.fault
            unmute := false } }) := by
  cases h : s.lane.muted <;> simp [State.laneFault, Lane.fail, h]

/-- An offer is discarded, dropped or queued (R125). -/
theorem Store.offer_cases (t : Store) (o : Offer) :
    (t.logOn = false ∧ t.offer o = t) ∨
    (t.logOn = true ∧ 8 ≤ t.queue.length ∧
      t.offer o = { t with dropped := satInc t.dropped, disarmed := true, writerDue := true }) ∨
    (t.logOn = true ∧ t.queue.length < 8 ∧
      t.offer o = { t with queue := t.queue ++ [o], writerDue := true }) := by
  cases h : t.logOn
  · exact .inl ⟨rfl, by simp [Store.offer, h]⟩
  · by_cases hq : 8 ≤ t.queue.length
    · exact .inr (.inl ⟨rfl, hq, by simp [Store.offer, h, hq]⟩)
    · exact .inr (.inr ⟨rfl, by omega, by simp [Store.offer, h, hq]⟩)

/-- The log writer drops, writes, waits or opens (R126). -/
theorem State.treatRecord_cases (s : State) (o : Offer) :
    let p := s.stl.placePage s.stl.tail
    (s.stl.dropsAtWriter = true ∧ s.treatRecord o = { s with stl := s.stl.dropAtWriter }) ∨
    (s.stl.dropsAtWriter = false ∧ s.stl.pageOpen p = true ∧
      s.treatRecord o = { s with stl := (s.stl.writeRecord o).popQueue }.logEvents s.stl) ∨
    (s.stl.dropsAtWriter = false ∧ s.stl.pageOpen p = false ∧
      (s.stl.bank (s.stl.bankOf p)).isOpening = true ∧ s.treatRecord o = s) ∨
    (s.stl.dropsAtWriter = false ∧ s.stl.pageOpen p = false ∧
      (s.stl.bank (s.stl.bankOf p)).isOpening = false ∧
      s.treatRecord o = { s with stl := s.stl.startOpen p }) := by
  intro p
  unfold State.treatRecord
  simp only []
  split_ifs with h1 h2 h3
  · exact .inl ⟨h1, rfl⟩
  · exact .inr (.inl ⟨by simpa using h1, h2, rfl⟩)
  · exact .inr (.inr (.inl ⟨by simpa using h1, by simpa using h2, h3, rfl⟩))
  · exact .inr (.inr (.inr ⟨by simpa using h1, by simpa using h2, by simpa using h3, rfl⟩))

/-- An entry that lets validation go on. -/
def Capture.entryPasses (c : Capture) (e : Word) : Prop := c.entryFailure e = none ∧ entryEnd e = false

/-- Validation passes over a prefix of entries that let it go on (R82). -/
theorem Capture.validateFrom_skip (c : Capture) (t : Table) (b : Bool) (k n : Nat)
    (h : ∀ j < n, c.entryPasses (t.entry (k + j))) (m : Nat) :
    c.validateFrom t b k (n + m) = c.validateFrom t b (k + n) m := by
  induction n generalizing k with
  | zero => simp
  | succ n ih =>
    have h0 := h 0 (by omega)
    rw [Nat.add_zero] at h0
    rw [show n + 1 + m = (n + m) + 1 by omega, Capture.validateFrom]
    simp only [h0.1, h0.2]
    have := ih (k + 1) (fun j hj => by have := h (j + 1) (by omega); rwa [show k + (j + 1) = k + 1 + j by omega] at this)
    simpa [show k + 1 + n = k + (n + 1) by omega] using this

end Sys2Proof.Machine
end

