-- ==== Sys2Proof/Laws/PerInstr.lean ====
section
/-! SUPPORT. Facts about every command as syntax, one lemma for each constructor: the data block of a well-formed
command fits the seven bits of COUNT (R2, R5), whatever table row it belongs to. -/

namespace Sys2Proof.Laws

/-- The data block that a command brings, for the rows that have one (R2). -/
def blockOf : Instr → Option Block
  | .startUnit _ => none
  | .beaconUnit => none
  | .beaconRunEnd _ _ => none
  | .framingError _ => none
  | .headerReceived _ => none
  | .read => none
  | .storeRead => none
  | .registerWrite b => some b
  | .linkStatusClear b => some b
  | .feedStatusClear b => some b
  | .channelRecordWrite b => some b
  | .supersedeClear b => some b
  | .activeTableWrite b => some b
  | .stagedTableWrite b => some b
  | .frameWatchWrite b => some b
  | .storeCfgWrite b => some b
  | .storeWrite b => some b
  | .logLossClear b => some b
  | .eventRetire b => some b
  | .clearLost b => some b
  | .alertEnableWrite b => some b
  | .setId b => some b
  | .drain => none
  | .unusedCommand => none
  | .unknownOrder b => some b
  | .startRun b => some b
  | .stopRun b => some b
  | .enterQuiet b => some b
  | .softReset b => some b
  | .runSelftest b => some b
  | .commit b => some b
  | .discardStaged b => some b
  | .clearMute b => some b
  | .logReset b => some b
  | .ackTokenSend => none
  | .readDataSend => none
  | .replyEnd => none
  | .replyClash _ => none
  | .replyTruncated _ => none
  | .pinReset _ => none
  | .pinResetRelease _ => none
  | .softResetStepDone _ => none
  | .selftestPhaseEnd _ => none
  | .chiChange _ => none
  | .feedMessage _ _ => none
  | .frameMarker _ => none
  | .slotTick _ => none
  | .frameWatchExpiry => none
  | .pageOpenDone _ => none
  | .logWriterStep => none
  | .feedReceiverResync _ => none

/-- The words of a well-formed command's data block can be counted by COUNT. -/
def BlockWords.Statement (i : Instr) : Prop :=
  i.wellFormed = true → ∀ b, blockOf i = some b → b.words.length < 2 ^ 7

/-- A block that passes its own check fits COUNT. -/
theorem block_fits_count (b : Block) (h : b.wellFormed = true) : b.words.length < 2 ^ 7 := by
  simp only [Block.wellFormed, decide_eq_true_eq] at h
  omega

/-- A command without a block says nothing about one. -/
theorem no_block {i : Instr} (h : blockOf i = none) : BlockWords.Statement i := by
  intro _ b hb
  rw [h] at hb
  cases hb

theorem BlockWords.startUnit (mid : BitVec 4) : BlockWords.Statement (.startUnit mid) := no_block rfl

theorem BlockWords.beaconUnit : BlockWords.Statement .beaconUnit := no_block rfl

theorem BlockWords.beaconRunEnd (u : LinkUnit) (mid : BitVec 4) : BlockWords.Statement (.beaconRunEnd u mid) :=
  no_block rfl

theorem BlockWords.framingError (u : LinkUnit) : BlockWords.Statement (.framingError u) := no_block rfl

theorem BlockWords.headerReceived (octets : BitVec 64) : BlockWords.Statement (.headerReceived octets) :=
  no_block rfl

theorem BlockWords.read : BlockWords.Statement .read := no_block rfl

theorem BlockWords.storeRead : BlockWords.Statement .storeRead := no_block rfl

theorem BlockWords.registerWrite (b : Block) : BlockWords.Statement (.registerWrite b) :=
  fun h _ e => Option.some.inj e ▸ block_fits_count b h

theorem BlockWords.linkStatusClear (b : Block) : BlockWords.Statement (.linkStatusClear b) :=
  fun h _ e => Option.some.inj e ▸ block_fits_count b h

theorem BlockWords.feedStatusClear (b : Block) : BlockWords.Statement (.feedStatusClear b) :=
  fun h _ e => Option.some.inj e ▸ block_fits_count b h

theorem BlockWords.channelRecordWrite (b : Block) : BlockWords.Statement (.channelRecordWrite b) :=
  fun h _ e => Option.some.inj e ▸ block_fits_count b h

theorem BlockWords.supersedeClear (b : Block) : BlockWords.Statement (.supersedeClear b) :=
  fun h _ e => Option.some.inj e ▸ block_fits_count b h

theorem BlockWords.activeTableWrite (b : Block) : BlockWords.Statement (.activeTableWrite b) :=
  fun h _ e => Option.some.inj e ▸ block_fits_count b h

theorem BlockWords.stagedTableWrite (b : Block) : BlockWords.Statement (.stagedTableWrite b) :=
  fun h _ e => Option.some.inj e ▸ block_fits_count b h

theorem BlockWords.frameWatchWrite (b : Block) : BlockWords.Statement (.frameWatchWrite b) :=
  fun h _ e => Option.some.inj e ▸ block_fits_count b h

theorem BlockWords.storeCfgWrite (b : Block) : BlockWords.Statement (.storeCfgWrite b) :=
  fun h _ e => Option.some.inj e ▸ block_fits_count b h

theorem BlockWords.storeWrite (b : Block) : BlockWords.Statement (.storeWrite b) :=
  fun h _ e => Option.some.inj e ▸ block_fits_count b h

theorem BlockWords.logLossClear (b : Block) : BlockWords.Statement (.logLossClear b) :=
  fun h _ e => Option.some.inj e ▸ block_fits_count b h

theorem BlockWords.eventRetire (b : Block) : BlockWords.Statement (.eventRetire b) :=
  fun h _ e => Option.some.inj e ▸ block_fits_count b h

theorem BlockWords.clearLost (b : Block) : BlockWords.Statement (.clearLost b) :=
  fun h _ e => Option.some.inj e ▸ block_fits_count b h

theorem BlockWords.alertEnableWrite (b : Block) : BlockWords.Statement (.alertEnableWrite b) :=
  fun h _ e => Option.some.inj e ▸ block_fits_count b h

theorem BlockWords.setId (b : Block) : BlockWords.Statement (.setId b) :=
  fun h _ e => Option.some.inj e ▸ block_fits_count b h

theorem BlockWords.drain : BlockWords.Statement .drain := no_block rfl

theorem BlockWords.unusedCommand : BlockWords.Statement .unusedCommand := no_block rfl

theorem BlockWords.unknownOrder (b : Block) : BlockWords.Statement (.unknownOrder b) :=
  fun h _ e => Option.some.inj e ▸ block_fits_count b h

theorem BlockWords.startRun (b : Block) : BlockWords.Statement (.startRun b) :=
  fun h _ e => Option.some.inj e ▸ block_fits_count b h

theorem BlockWords.stopRun (b : Block) : BlockWords.Statement (.stopRun b) :=
  fun h _ e => Option.some.inj e ▸ block_fits_count b h

theorem BlockWords.enterQuiet (b : Block) : BlockWords.Statement (.enterQuiet b) :=
  fun h _ e => Option.some.inj e ▸ block_fits_count b h

theorem BlockWords.softReset (b : Block) : BlockWords.Statement (.softReset b) :=
  fun h _ e => Option.some.inj e ▸ block_fits_count b h

theorem BlockWords.runSelftest (b : Block) : BlockWords.Statement (.runSelftest b) :=
  fun h _ e => Option.some.inj e ▸ block_fits_count b h

theorem BlockWords.commit (b : Block) : BlockWords.Statement (.commit b) :=
  fun h _ e => Option.some.inj e ▸ block_fits_count b h

theorem BlockWords.discardStaged (b : Block) : BlockWords.Statement (.discardStaged b) :=
  fun h _ e => Option.some.inj e ▸ block_fits_count b h

theorem BlockWords.clearMute (b : Block) : BlockWords.Statement (.clearMute b) :=
  fun h _ e => Option.some.inj e ▸ block_fits_count b h

theorem BlockWords.logReset (b : Block) : BlockWords.Statement (.logReset b) :=
  fun h _ e => Option.some.inj e ▸ block_fits_count b h

theorem BlockWords.ackTokenSend : BlockWords.Statement .ackTokenSend := no_block rfl

theorem BlockWords.readDataSend : BlockWords.Statement .readDataSend := no_block rfl

theorem BlockWords.replyEnd : BlockWords.Statement .replyEnd := no_block rfl

theorem BlockWords.replyClash (bit : BitVec 3) : BlockWords.Statement (.replyClash bit) := no_block rfl

theorem BlockWords.replyTruncated (u : LinkUnit) : BlockWords.Statement (.replyTruncated u) := no_block rfl

theorem BlockWords.pinReset (power : Bool) : BlockWords.Statement (.pinReset power) := no_block rfl

theorem BlockWords.pinResetRelease (mid : BitVec 4) : BlockWords.Statement (.pinResetRelease mid) :=
  no_block rfl

theorem BlockWords.softResetStepDone (mid : BitVec 4) : BlockWords.Statement (.softResetStepDone mid) :=
  no_block rfl

theorem BlockWords.selftestPhaseEnd (failed : List (BitVec 20 × Word)) : BlockWords.Statement (.selftestPhaseEnd failed) :=
  no_block rfl

theorem BlockWords.chiChange (level : Bool) : BlockWords.Statement (.chiChange level) := no_block rfl

theorem BlockWords.feedMessage (feed : BitVec 2) (bits : BitVec 25) : BlockWords.Statement (.feedMessage feed bits) :=
  no_block rfl

theorem BlockWords.frameMarker (number : BitVec 16) : BlockWords.Statement (.frameMarker number) :=
  no_block rfl

theorem BlockWords.slotTick (ltag : BitVec 6) : BlockWords.Statement (.slotTick ltag) := no_block rfl

theorem BlockWords.frameWatchExpiry : BlockWords.Statement .frameWatchExpiry := no_block rfl

theorem BlockWords.pageOpenDone (bank : Bank) : BlockWords.Statement (.pageOpenDone bank) := no_block rfl

theorem BlockWords.logWriterStep : BlockWords.Statement .logWriterStep := no_block rfl

theorem BlockWords.feedReceiverResync (feed : BitVec 2) : BlockWords.Statement (.feedReceiverResync feed) :=
  no_block rfl

end Sys2Proof.Laws
end

