-- ==== Sys2Proof/Tests/Slice0.lean ====
section
/-! SUPPORT. Tests: the commands that cannot be formed, the worked examples of the manual, and for every obligation
with hypotheses a state and operands that meet them, clause by clause. -/

namespace Sys2Proof.Tests

set_option Elab.async false

open Sys2Proof Sys2Proof.Machine

/-! ## Commands that cannot be formed -/

theorem test_beacon_ends_no_run : (Instr.beaconRunEnd .beacon 0).wellFormed = false := by decide

theorem test_octet_is_no_framing_error : (Instr.framingError .octet).wellFormed = false := by decide

theorem test_idle_abandons_no_reply : (Instr.replyTruncated .idle).wellFormed = false := by decide

theorem test_block_of_128_words : (Instr.registerWrite ⟨List.replicate 128 0, 0⟩).wellFormed = false := by decide +kernel

theorem test_block_of_127_words : (Instr.registerWrite ⟨List.replicate 127 0, 0⟩).wellFormed = true := by decide +kernel

theorem test_link_status_is_not_tested : (Instr.selftestPhaseEnd [(0x005, 0)]).wellFormed = false := by decide

theorem test_word_fails_once : (Instr.selftestPhaseEnd [(0x004, 1), (0x004, 2)]).wellFormed = false := by decide

/-! ## Small states -/

/-- The state a command leaves. -/
def after (r : Result) : State :=
  match r with
  | .next t => t
  | .fault _ => State.reset
  | .refused _ => State.reset

/-- A node with an ID, out of RESET with its last test passed, its feed receivers framing. -/
def node (m : Mode) (id : BitVec 6) : State :=
  { State.reset with
    ctl := { State.reset.ctl with mode := m, testPassed := true, rstnLow := false }
    ident := { nodeId := id, chi := false }
    cap := State.reset.cap.releaseFeeds 0
    sct := { State.reset.sct with first := defaultSchedule, second := defaultSchedule } }

/-- A node in RUN that has walked `k` slots of frame `n`. -/
def walking (id : BitVec 6) (n : BitVec 16) (k : Nat) : State :=
  { node .run id with
    lane := { (node .run id).lane with
      sub := .walking, frame := n, markerSeen := true, slotIndex := k, inSlot := k ≠ 0 } }

/-- A DIRECT request to node 5, SEQ 3, every byte enabled, its data check right. -/
def request (c : Command) (a : BitVec 20) (n : BitVec 7) (ws : List Word) : Request :=
  { hdr :=
      { addressing := .direct, dest := 5, command := c, seq := 3, address := a, firstEn := 0xF, lastEn := 0xF
        count := n }
    words := ws
    check := dataCheck ws }

/-- An ORDER to node 5. -/
def order (code : BitVec 20) (param : Word) : Request := request .order code 1 [param]

/-- The same request by another addressing. -/
def Request.by (r : Request) (a : Addressing) : Request := { r with hdr := { r.hdr with addressing := a } }

/-- The node that has received all of the request but its last octet; all of it when it has no data block. -/
def hearing (s : State) (r : Request) : State := s.withRx (.data r.hdr (r.hdr.blockOctets - 1))

/-- A node in the self-test phase `p` whose last unit is still to come. -/
def testing (p : Phase) : State :=
  { node .selftest 5 with ste := { SelfTest.begin 0x24 with phase := p, units := p.length - 1 } }

/-- The phase ends with the given failed words, after its last unit. -/
def phaseEnds (failed : List FailedWord) (s : State) : State :=
  after (exec (.selftestPhaseEnd failed) { s with ste := { s.ste with units := s.ste.phase.length - 1 } })

/-- The verdict and the reason or hint of the token owed. -/
def owed (s : State) : Option (BitVec 2 × BitVec 4) :=
  match s.link.rx with
  | .ackWait r _ =>
    match r.token with
    | [a, b, _] => some (a.extractLsb' 6 2, b.extractLsb' 0 4)
    | _ => none
  | _ => none

/-- The kinds and DETAILs in the event queue, oldest first. -/
def events (s : State) : List (EventKind × BitVec 16) := s.evu.queue.map (fun r => (r.kind, r.detail))

/-- A table of the given entries, the rest 0. -/
def table (ws : List Word) : Table := Vector.ofFn (fun k : Fin 256 => ws.getD k.val 0)

/-! ## The control link (chapters 1 and 3) -/

/-- The published check values of the two cyclic checks, over the nine octets "123456789". -/
theorem test_check_values :
    (bitsMsbFirst 0x313233343536373839#72).foldl (crcBit (0x07#8)) 0 = 0xF4 ∧
      (bitsMsbFirst 0x313233343536373839#72).foldl (crcBit (0x1021#16)) 0xFFFF = 0x29B1 := by
  decide +kernel

/-- 1.12: a header with DEST 9, READ, SEQ 3, ADDRESS 030h and COUNT 2, octet by octet from R5. -/
theorem test_header_fields :
    Header.parse 0x0906000300000200#64 = ⟨.direct, 9, .read, 3, 0x00030, 0, 0, 2⟩ := by
  decide +kernel

/-- 1.12: a START after the token and two data octets; DETAIL bits 15-8 are 5, a new request is framed. -/
theorem test_reply_truncated_after_five_octets :
    let r := (node .setup 5).replyFor (node .setup 5) (request .read 0x030 2 []).hdr .accept
    let s := { node .setup 5 with link := { (node .setup 5).link with rx := .readData r 2 } }
    let t := after (exec (.replyTruncated .start) { s with evu := { s.evu with enable := 0x0007FFFE } })
    events t = [(.replyTruncated, 0x0503)] ∧ t.link.rx = .header 0 := by
  decide +kernel

/-- R38: a clash in the first octet, whose first 1 is bit 1: DETAIL is the serial stamp and octet position 1. -/
theorem test_clash_in_first_octet :
    let r := (node .setup 5).replyFor (node .setup 5) (request .read 0x001 1 []).hdr .accept
    let t := after (exec (.replyClash 1) ((node .setup 5).withRx (.token r 0)))
    events t = [(.replyClash, Config.serial.extractLsb' 0 8 ++ 1#8)] ∧ t.link.clashes = 1 :=
  ⟨rfl, rfl⟩

/-- 1.12: four IDLE units pass before the token, two between the token and the read data. -/
theorem test_default_delays :
    let s := hearing (node .setup 5) (request .read 0x030 2 [])
    let a := after (exec .read s)
    let b := after (exec .ackTokenSend a)
    let c := after (exec .readDataSend b)
    a.link.units = 0 ∧ b.link.units = 4 ∧ c.link.units = 9 ∧ (after (exec .replyEnd c)).link.units = 19 := by
  decide +kernel

/-- 1.13: the write acts once; its resend is acknowledged and writes nothing. -/
theorem test_resend_writes_once :
    let r := request .write 0x030 1 [0x0000A5A5]
    let s := after (exec (.registerWrite r.block) (hearing (node .setup 5) r))
    let again := hearing { s with user := s.user.set 0 7 } r
    s.userWord 0 = 0x0000A5A5 ∧ owed s = some (1, 0) ∧
      (after (exec (.registerWrite r.block) again)).userWord 0 = 7 ∧
      owed (after (exec (.registerWrite r.block) again)) = some (1, 0) := by
  decide +kernel

/-- 3.8: twelve beacons are stray in SETUP (DETAIL 020Ch); five wake a node in QUIET, and the START is framed. -/
theorem test_beacon_runs :
    let s := node .setup 5
    let stray := { s with link := { s.link with beacons := 12 }, evu := { s.evu with enable := 0x0007FFFE } }
    let asleep := { node .quiet 5 with link := { s.link with beacons := 5 } }
    events (after (exec (.beaconRunEnd .idle 0) stray)) = [(.beaconStray, 0x020C)] ∧
      (after (exec (.startUnit 0) asleep)).ctl.mode = .setup ∧
      (after (exec (.startUnit 0) asleep)).link.rx = .header 0 := by
  decide +kernel

/-- 1.8: in SELFTEST a WRITE to an unassigned address is deferred with hint 15, not refused. -/
theorem test_selftest_defers_first :
    let r := request .write 0x007 1 [0]
    owed (after (exec (.registerWrite r.block) (hearing (node .selftest 5) r))) = some (2, 15) ∧
      owed (after (exec (.registerWrite r.block) (hearing (node .setup 5) r))) = some (3, 6) := by
  decide +kernel

/-- 11.2: 000h with COUNT 64 covers 007h (BAD_ADDRESS); a WRITE of 020h-023h is READ_ONLY. -/
theorem test_address_checks :
    let r := request .write 0x020 4 [0, 0, 0, 0]
    owed (after (exec .read (hearing (node .setup 5) (request .read 0x000 64 [])))) = some (3, 6) ∧
      owed (after (exec (.eventRetire r.block) (hearing (node .setup 5) r))) = some (3, 8) := by
  decide +kernel

/-- 3.8: ENTER_QUIET broadcast to a node with a stop pending is ignored with class 3, hint 15. -/
theorem test_quiet_ignored_while_stop_pending :
    let r := Request.by (order 3 0) .broadcast
    let s := walking 5 812 2
    let t := after (exec (.enterQuiet r.block) (hearing { s with ctl := { s.ctl with stop := some .atFrame } } r))
    events t = [(.broadcastIgnored, 0x030F)] ∧ t.ctl.mode = .run := by
  decide +kernel

/-- R4: a START after the last octet of a READ's header cuts nothing short: the READ has been judged, its reply is
abandoned. R163: a START that is the last unit of a soft reset's step is framed in SELFTEST. -/
theorem test_start_at_the_boundary :
    let s := hearing (node .setup 5) (request .read 0x030 1 [])
    let t := after (exec (.startUnit 0) { s with now := some ⟨70, true, false, []⟩ })
    let last := { node .reset 5 with ctl := { (node .reset 5).ctl with softStep := some 1 } }
    let u := after (exec (.startUnit 0) last)
    t.link.headerErrors = 0 ∧ t.link.rx = .header 0 ∧ u.ctl.mode = .selftest ∧ u.link.rx = .header 0 := by
  decide +kernel

/-- R44, R60: a START at the instant at which RSTN goes high is framed in SELFTEST, in whichever order the two arrive. -/
theorem test_start_as_rstn_rises :
    let low := { node .reset 0 with ctl := { (node .reset 0).ctl with rstnLow := true } }
    let t := after (exec (.startUnit 0) (after (exec (.pinResetRelease 0) low)))
    low.inOrder [.startUnit 0, .pinResetRelease 0] = [.pinResetRelease 0, .startUnit 0] ∧
      t.ctl.mode = .selftest ∧ t.link.rx = .header 0 ∧ t.now = some ⟨70, true, false, [.phase]⟩ ∧ t.ste.units = 0 := by
  decide +kernel

/-- R63: a BEACON that is the last unit of a soft reset's step leaves RESET; FD1, in the middle of a message, waits. -/
theorem test_beacon_ends_soft_step :
    let last := { node .reset 5 with ctl := { (node .reset 5).ctl with softStep := some 1 } }
    let t := last.receive .beacon 2
    t.ctl.mode = .selftest ∧ t.link.beacons = 1 ∧ (t.cap.feed 1).rx = .waitIdle ∧ (t.cap.feed 0).rx = .framing := by
  decide +kernel

/-- R119: an open that completes while the header comes is complete at the acceptance point. -/
theorem test_open_completes_in_time :
    let s := { node .setup 5 with stl := { (node .setup 5).stl with bank0 := .opening 0 5 } }
    let h : BitVec 56 := 0x0506400000000001
    let t := after (exec (.headerReceived (h ++ headerCheck (h ++ 0#8))) (s.withRx (.header 0)))
    t.stl.bank0 = .opened 0 := by
  decide +kernel

/-! ## Feeds (chapter 4) -/

/-- Node 5 of the worked example 4.10: channel 13 decimated by 3 and logged, its latest sample at SEQ 40. -/
def logging : State :=
  let s := walking 5 100 3
  { s with
    cap := s.cap.setChannel 13
      { record := 0x00000303, decim := 0, superseded := 0
        sample := { value := 0, seq := 40, fresh := false, noData := false, overRange := false } }
    stl := { s.stl with cfg := 0x00100000 } }

/-- 4.10, message 1: INDEX 5 on FD1, VALUE 0012Ah, even parity: taken with SEQ 41 and offered. -/
theorem test_message_taken_and_offered :
    let t := after (exec (.feedMessage 1 (5#3 ++ 0#1 ++ 0x0012A#20 ++ 0#1)) logging)
    (t.cap.channel 13).decim = 1 ∧ (t.cap.channel 13).sample = ⟨0x0012A, 41, true, false, false⟩ ∧
      t.stl.queue = [⟨13, false, 41, 0x0012A, 3, 100⟩] := by
  decide +kernel

/-- 4.10, message 6: odd parity on FD1 with INDEX 5: FEED_PARITY with DETAIL 0105h, the channel unchanged. -/
theorem test_message_fails_parity :
    let t := after (exec (.feedMessage 1 (5#3 ++ 0#1 ++ 0x0012A#20 ++ 1#1)) logging)
    events t = [(.feedParity, 0x0105)] ∧ (t.cap.feed 1).parityErrors = 1 ∧
      t.cap.channel 13 = logging.cap.channel 13 := by
  decide +kernel

/-! ## Tables and the lane (chapters 5 and 6) -/

/-- Node 6 of the worked example 6.11 in frame 530, the faulty plan committed to frame 531. -/
def plan (faulty : Bool) : Table :=
  table [0x01, 0x48, 0x02, 0x49, if faulty then 0x4A else 0x04, 0xE0]

/-- Node 6 with all six ticks of frame `n` walked. -/
def nodeSix (n : BitVec 16) : State :=
  let s := walking 6 n 6
  { s with sct := { s.sct with first := plan false, second := plan true, commit := some ⟨true, 531, false⟩ } }

/-- 6.11, marker 531: TABLE_SWAPPED with DETAIL 0305h, the walk begins at entry 0 of the new table. -/
theorem test_targeted_commit_swaps :
    let t := after (exec (.frameMarker 531) (nodeSix 530))
    events t = [(.tableSwapped, 0x0305)] ∧ t.lane.slotIndex = 0 ∧ t.sct.active = plan true := by
  decide +kernel

/-- 6.11, tick 5: node 6 loses slot 4 to node 2 at tag bit 4: CONTENTION_LOST with DETAIL 0804h, and it mutes. -/
theorem test_contention_lost :
    let s := walking 6 531 4
    let t := after (exec (.slotTick 2) { s with sct := { s.sct with first := plan true } })
    events t = [(.contentionLost, 0x0804)] ∧ t.lane.muted = true ∧ t.lane.fault = ⟨.contentionLost, 4, 4, 531⟩ ∧
      t.lane.faultCount = 1 ∧ t.lane.slotIndex = 5 := by
  decide +kernel

/-- Figure 6-1: node 2 wins the same slot with the SPAN word 8444D00001h. -/
theorem test_span_word_placed :
    let s := walking 2 531 4
    let t := after (exec (.slotTick 6) { s with sct := { s.sct with first := table [0, 0, 0, 0, 0x61, 0x80] } })
    t.lane.drive = some ⟨6, 2, some 0x8444D00001⟩ := by
  decide +kernel

/-- 6.11, a frame cut short at four ticks: SCHEDULE_LONG with DETAIL 0004h. -/
theorem test_frame_cut_short :
    let s := walking 6 534 4
    let t := after (exec (.frameMarker 535) { s with sct := { s.sct with first := plan false } })
    events t = [(.scheduleLong, 0x0004)] ∧ t.lane.muted = true ∧ t.lane.fault.frame = 535 := by
  decide +kernel

/-- 6.11, recovery: an untargeted COMMIT and a CLEAR_MUTE, then LANE_STATUS, then marker 534 with DETAIL 0205h. -/
theorem test_recovery :
    let s := { nodeSix 533 with sct := { (nodeSix 533).sct with first := plan true, second := plan false, commit := none } }
    let s := { s with lane := { s.lane with muted := true, fault := ⟨.contentionLost, 4, 4, 531⟩, faultCount := 1 } }
    let s := after (exec (.commit (order 6 0).block) (hearing s (order 6 0)))
    let s := after (exec (.clearMute (order 8 0).block) (hearing s (order 8 0)))
    let t := after (exec (.frameMarker 534) s)
    (s.readWord 0x008).extractLsb' 0 6 = 0x27 ∧ s.readWord 0x009 = 0 ∧
      events t = [(.tableSwapped, 0x0205)] ∧ t.lane.muted = false ∧ t.sct.active = plan false := by
  decide +kernel

/-- 5.8, step 2: the COMMIT to 4100 at frame 4094 is held (COMMIT_TARGET 00031004h); at frame 4100 it is late. -/
theorem test_commit_held_or_late :
    let r := order 6 0x00011004
    let t := after (exec (.commit r.block) (hearing (walking 5 4094 2) r))
    let u := after (exec (.commit r.block) (hearing (walking 5 4100 2) r))
    t.readWord 0x00B = 0x00031004 ∧ events t = [] ∧ events u = [(.commitLate, 0x1004)] := by
  decide +kernel

/-- 5.8, step 2: a broadcast COMMIT of a table that drives a disabled channel: DETAIL 020Dh, TABLE_CHECK at 20. -/
theorem test_broadcast_commit_fails :
    let r := Request.by (order 6 0x00011004) .broadcast
    let s := walking 8 4094 2
    let s := { s with
      cap := s.cap.setChannel 22 { Channel.initial with record := 0x00000100 }
      sct := { s.sct with second := table (List.replicate 20 0 ++ [0x56, 0x80]) } }
    let t := after (exec (.commit r.block) (hearing s r))
    events t = [(.broadcastIgnored, 0x020D)] ∧ t.sct.check = ⟨.channelDisabled, false, 20, 0⟩ ∧
      t.sct.commit = none := by
  decide +kernel

/-! ## Store and log (chapter 7) -/

/-- 7.10: under INTERLEAVED page 40 is bank 0, physical page 20; its READ closes the writer's page. -/
theorem test_page_thrash :
    let r := request .read 0x5400 32 []
    let s := walking 5 9 2
    let s := { s with stl := { s.stl with cfg := 0x00080003, bank0 := .opened 1 } }
    let t := after (exec .storeRead (hearing s r))
    owed t = some (2, 2) ∧ t.stl.bank0 = .opening 20 20 := by
  decide +kernel

/-- Node 4 of the worked example 7.11: 100 records from place 30, page 0 open, drain memory at SEQ 8. -/
def drained : State :=
  let s := node .setup 5
  { s with
    stl := { s.stl with cfg := 0x00100000, head := 30, tail := 130, count := 100, bank0 := .opened 0 }
    link := { s.link with drain := ⟨true, 8⟩ } }

/-- A DRAIN of up to 31 records with its own SEQ. -/
def drain31 (seq : BitVec 4) : Request :=
  { request .drain 0 31 [] with hdr := { (request .drain 0 31 []).hdr with seq := seq } }

/-- 7.11, steps 1, 6 and 7: N 31 with REMAINING 69, then N 3 with REMAINING 66, then deferred with nothing retired. -/
theorem test_drain_sequence :
    let a := after (exec .drain (hearing drained (drain31 9)))
    let b := after (exec .drain (hearing a (drain31 10)))
    let c := after (exec .drain (hearing b (drain31 11)))
    (a.stl.drainBlock false).head? = some 0x0000451F ∧ (b.stl.drainBlock false).head? = some 0x00004203 ∧
      b.stl.head = 61 ∧ owed c = some (2, 2) ∧ c.stl.inFlight = 3 ∧ c.stl.bank0 = .opening 1 20 := by
  decide +kernel

/-- 7.11, step 5: a resend with the page open returns the 31 records again. -/
theorem test_drain_resend :
    let a := after (exec .drain (hearing drained (drain31 9)))
    let b := after (exec .drain (hearing a (drain31 9)))
    b.stl = a.stl ∧ (b.stl.drainBlock true).head? = some 0x0800451F := by
  decide +kernel

/-- R124, R127: the record of 4.10's first message, written at place 0 of page 0. -/
theorem test_writer_writes_record :
    let s := after (exec (.feedMessage 1 (5#3 ++ 0#1 ++ 0x0012A#20 ++ 0#1)) logging)
    let t := after (exec .logWriterStep { s with stl := { s.stl with bank0 := .opened 0 } })
    t.stl.readWord 0x4000 = 0x0000290D ∧ t.stl.readWord 0x4001 = 0x0000012A ∧ t.stl.tail = 1 ∧ t.stl.count = 1 ∧
      t.stl.queue = [] := by
  decide +kernel

/-- R60, R126: a message, the writer's step and a request at one instant: one unit, and one step of the writer. -/
theorem test_one_writer_step_an_instant :
    let r := request .write 0x030 1 [7]
    let m := Instr.feedMessage 1 (5#3 ++ 0#1 ++ 0x0012A#20 ++ 0#1)
    let s := hearing { logging with
      stl := { logging.stl with bank0 := .opened 0, queue := [⟨13, false, 39, 0, 3, 100⟩] } } r
    let t := after (exec (.registerWrite r.block) (after (exec .logWriterStep (after (exec m s)))))
    s.inOrder [.registerWrite r.block, .logWriterStep, m] = [m, .logWriterStep, .registerWrite r.block] ∧
      t.link.units = s.link.units + 1 ∧ t.stl.queue.length = 1 ∧ t.stl.count = 1 ∧ t.user[0] = 7 ∧
      t.close.stl.queue.length = 1 := by
  decide +kernel

/-- R119: the unit that ends at the instant at which the writer begins an open does not count for it; another does. -/
theorem test_open_counts_later_units :
    let r := request .write 0x030 1 [7]
    let s := hearing { logging with stl := { logging.stl with bank1 := .opening 64 9 } } r
    let t := after (exec .logWriterStep (after (exec (.feedMessage 1 (5#3 ++ 0#1 ++ 0x0012A#20 ++ 0#1)) s)))
    let u := after (exec (.registerWrite r.block) t)
    u.link.units = s.link.units + 1 ∧ u.stl.bank0 = .opening 0 20 ∧ u.stl.bank1 = .opening 64 8 ∧
      (u.passUnit 0).stl.bank0 = .opening 0 19 := by
  decide +kernel

/-! ## Events (chapter 8) -/

/-- Node 6 of the worked example 8.10, with the three records the conductor reads. -/
def alerting : State :=
  let s := node .setup 5
  { s with
    evu := { s.evu with
      queue := [⟨.tableSwapped, 0x0305, 531, 0x28⟩, ⟨.contentionLost, 0x0804, 531, 0x29⟩, ⟨.frameGap, 0x0216, 534, 0x2A⟩]
      serial := 0x2B, alert := 0x00020801 } }

/-- 8.10, steps 1 and 4: EVENT_STATUS 2B010003h; retiring three records releases ALERTN. -/
theorem test_alert_service :
    let r := request .write 0x023 1 [3]
    let t := after (exec (.eventRetire r.block) (hearing alerting r))
    alerting.readWord 0x020 = 0x2B010003 ∧ alerting.alertLow = true ∧ t.evu.queue = [] ∧ t.close.evu.alertn = false := by
  decide +kernel

/-- R148: a tick raises an event that a request of the same instant retires: no pulse on ALERTN. -/
theorem test_no_pulse_on_alertn :
    let r := request .write 0x023 1 [1]
    let s := { walking 5 531 4 with
      sct := { (walking 5 531 4).sct with first := plan true }, evu := { (walking 5 531 4).evu with alert := 0x7FFFF } }
    let t := after (exec (.slotTick 2) (hearing s r))
    let u := after (exec (.eventRetire r.block) t)
    t.evu.attention = true ∧ t.evu.alertn = false ∧ u.evu.attention = false ∧ u.now = some ⟨70, true, false, []⟩ ∧
      t.close.evu.alertn = true := by
  decide +kernel

/-- 8.10, step 6: EVENT_RETIRE 00000110h empties the queue and clears LOST. -/
theorem test_clear_lost :
    let r := request .write 0x023 1 [0x00000110]
    let s := { alerting with evu := { alerting.evu with lost := 9 } }
    let t := after (exec (.clearLost r.block) (hearing s r))
    t.evu.queue = [] ∧ t.evu.lost = 0 := by
  decide +kernel

/-! ## Self-test and resets (chapters 9 and 10) -/

/-- 9.6: a store word that fails S3 and S4: address 4A13h, detail 0Ch, DETAIL 000Ch, the failed signature. -/
theorem test_failed_store_word :
    let s := phaseEnds [] (phaseEnds [] (phaseEnds [(0x4A13, 1)] (phaseEnds [(0x4A13, 1)] (testing .s3))))
    s.readWord 0x028 = 0x7E57FA11 ∧ s.readWord 0x029 = 0x0000000C ∧ s.readWord 0x02A = 0x00004A13 ∧
      events s = [(.selftestDone, 0x000C)] ∧ s.readWord 0x4A13 = 1 ∧ s.ctl.mode = .setup := by
  decide +kernel

/-- R154: a store word that fails S3 only holds what its storage keeps after the zero fill; R174: a register that fails
S1 reads 0 in the bits that carry no field. -/
theorem test_words_that_fail_early :
    let s := phaseEnds [] (phaseEnds [(0x7FFF, 0xFFFFFFFF)] (testing .s3))
    s.readWord 0x7FFF = 0xFFFFFFFF ∧ s.readWord 0x4000 = 0 ∧
      (phaseEnds [(0x00E, 0xFFFFFFFF)] (testing .s1)).readWord 0x00E = 0x000FFFFF := by
  decide +kernel

/-- R151: units that come with other commands count in the phase that runs when they end. -/
theorem test_phase_ends_in_time :
    let s := { testing .s6 with ste := { (testing .s6).ste with units := 250 } }
    let t := after (exec (.headerReceived 0) (s.withRx (.header 0)))
    t.ctl.mode = .setup ∧ t.link.units = 8 := by
  decide +kernel

/-- 10.7: the soft reset at the end of its token discards a pending commit, keeps the ID, USER0 and ALERT_ENABLE. -/
theorem test_soft_reset_of_running_node :
    let r := order 4 0
    let s := walking 5 2200 3
    let s := { s with sct := { s.sct with commit := some ⟨true, 2210, false⟩ }, user := s.user.set 0 9
                      evu := { s.evu with alert := 2 } }
    let t := after (exec (.softReset r.block) (hearing s r))
    let u := after (exec .replyEnd (after (exec .ackTokenSend t)))
    let v := after (exec (.softResetStepDone 0) u)
    t.ctl.mode = .run ∧ u.ctl.mode = .reset ∧ u.sct.commit = none ∧ events u = [] ∧ u.ident.nodeId = 5 ∧
      v.ctl.mode = .selftest ∧ v.userWord 0 = 9 ∧ v.evu.alert = 2 ∧ v.ctl.resetCause = .soft := by
  decide +kernel

/-- 2.7, step 5: the chain head takes the ID, its CHO asserts and its reply memory is untouched. -/
theorem test_chain_head_named :
    let r := Request.by (request .setId 0 1 [1]) .chainHead
    let s := { node .setup 0 with ident := { nodeId := 0, chi := true } }
    let t := after (exec (.setId r.block) (hearing s r))
    t.ident.nodeId = 1 ∧ t.ident.cho = true ∧ s.ident.cho = false ∧ t.link.mem = s.link.mem ∧ owed t = some (1, 0) := by
  decide +kernel

/-! ## States and operands that meet the hypotheses of the obligations -/

/-- A node with a beacon run of `n` units going on. -/
def beaconing (m : Mode) (n : BitVec 8) : State := { node m 5 with link := { (node m 5).link with beacons := n } }

/-- A node in RESET whose only causes are those given. -/
def held (pin : Bool) (beacons : BitVec 8) (soft : Option Nat) : State :=
  let s := { beaconing .reset beacons with ident := { nodeId := 0, chi := false } }
  { s with ctl := { s.ctl with rstnLow := pin, softStep := soft } }

/-- The reply an executed request is owed. -/
def reply (r : Request) : Reply := (node .setup 5).replyFor (node .setup 5) r.hdr .accept

/-- A node whose reply memory holds the request. -/
def remembering (s : State) (r : Request) : State := { s with link := { s.link with mem := r.memory } }

/-- Eight header octets with the right check. -/
def sealed (o : BitVec 56) : BitVec 64 := o ++ headerCheck (o ++ 0#8)

/-- The operating state agrees with every block, no reply being owed. -/
def agrees (s : State) : Bool :=
  decide (s.ctl.mode = .reset ∨ s.ctl.mode = .quiet → s.link.rx = .listen)
    && decide (s.ctl.mode = .reset ↔ s.resetHeld = true)
    && decide (s.ctl.rstnLow = true ∨ 64 ≤ s.link.beacons.toNat → s.ident.nodeId = 0)
    && decide (s.ctl.mode = .reset →
      s.evu.queue = [] ∧ s.evu.lost = 0 ∧ s.stl.queue = [] ∧ s.stl.bank0 = .none ∧ s.stl.bank1 = .none)
    && decide (s.ste.phase ≠ .idle ↔ s.ctl.mode = .selftest) && s.link.rx.reply?.isNone
    && decide (s.ctl.mode ≠ .run →
      (s.lane.sub = .none ∧ s.lane.slotIndex = 0 ∧ s.lane.inSlot = false ∧ s.lane.markerSeen = false ∧
        s.lane.shortSeen = false ∧ s.lane.unmute = false ∧ s.lane.watchCount = 0 ∧
        s.lane.watchExpired = false ∧ s.lane.drive = none) ∧ s.ctl.stop = none ∧ s.sct.commit = none)
    && decide (s.ctl.mode = .run → s.ident.named = true ∧ s.ctl.testPassed = true ∧ s.lane.sub ≠ .none)

theorem agrees_sound {s : State} (h : agrees s = true) : s.ModesConsistent := by
  simp only [agrees, Bool.and_eq_true, decide_eq_true_eq, Option.isNone_iff_eq_none] at h
  obtain ⟨⟨⟨⟨⟨⟨⟨h1, h2⟩, h3⟩, h4⟩, h5⟩, h6⟩, h7⟩, h8⟩ := h
  exact ⟨h1, h2, h3, h4, h5, by unfold State.EndingLegal; rw [h6]; trivial, h7, h8⟩

theorem meets_StepRunsFrontCommand :
    let s := node .setup 5
    let last := (node .setup 5).withRx (.header 7)
    (s.pending = [] ∧ s.now = none ∧ s.link.rx.stalled = false) ∧
      (last.pending = [] ∧ last.now = none ∧ last.link.rx.stalled = true) ∧
      ((s.reach 70).pending = [] ∧ (s.reach 70).now ≠ none) := by
  decide +kernel

/-- Instants that a place continues, and that it ends; a marker before a tick. -/
theorem meets_InstantInFixedOrder :
    (beaconing .run 63).link.beacons = 63 ∧ (0 : BitVec 2).toNat < (3 : BitVec 2).toNat ∧
      ((node .run 5).reach 30).now = some ⟨30, false, false, []⟩ ∧ (node .run 5).now = none ∧
      ((node .run 5).reach 30).sawMarker.now = some ⟨30, false, true, []⟩ ∧
      ((node .run 5).reach 70).now = some ⟨70, false, false, []⟩ := by
  decide +kernel

theorem meets_StoreStaysCanonical :
    let s := { logging with stl := { logging.stl with mem := [⟨0, 7⟩] }, pending := [.logWriterStep] }
    s.StoreCanonical ∧ ∃ t, step s = .next t :=
  ⟨by unfold State.StoreCanonical; decide +kernel, _, rfl⟩

theorem meets_QueuesAndSamplesStaySound :
    let s := { alerting with pending := [.chiChange true] }
    (∃ t, step s = .next t) ∧ s.evu.Consistent ∧ s.cap.SamplesConsistent ∧ s.stl.QueueFits ∧ s.FieldsOnly := by
  refine ⟨⟨_, rfl⟩, ?_, ?_, ?_, ?_, ?_, ?_, ?_, ?_⟩ <;>
    (try unfold Events.Consistent) <;> (try unfold Capture.SamplesConsistent) <;> (try unfold Store.QueueFits) <;>
    decide +kernel

theorem meets_ModesStayConsistent : ∃ t, (walking 5 100 2).ModesConsistent ∧ step (walking 5 100 2) = .next t :=
  ⟨_, agrees_sound (by decide +kernel), rfl⟩

/-- R97: here the walk is at its end, slot index equal to the length, and a valid table is committed. -/
theorem meets_RunTablesStayValid : ∃ t,
    (nodeSix 530).ModesConsistent ∧ (nodeSix 530).RunTablesValid ∧ step (nodeSix 530) = .next t := by
  refine ⟨_, agrees_sound (by decide +kernel), ?_, rfl⟩
  unfold State.RunTablesValid
  decide +kernel

theorem meets_LogRingStaysConsistent : ∃ t,
    drained.ModesConsistent ∧ drained.LogConsistent ∧ step drained = .next t := by
  refine ⟨_, agrees_sound (by decide +kernel), ?_, rfl⟩
  unfold State.LogConsistent Store.RingConsistent
  decide +kernel

theorem meets_NodeIdChangesOnlyAsStated :
    let r := request .setId 0 1 [63]
    (∃ t, exec (.setId r.block) (hearing (node .setup 5) r) = .next t ∧ t.ident.nodeId ≠ 5) ∧
      ∃ t, exec (.pinReset false) (node .setup 5) = .next t ∧ t.ident.nodeId ≠ 5 :=
  ⟨⟨_, rfl, by decide +kernel⟩, _, rfl, by decide +kernel⟩

/-- A state for each clause: the end of S6; units that reset, that end a reset cause, that wake; commands that move. -/
theorem meets_ModeChangesOnlyAsListed :
    ((testing .s6).ModesConsistent ∧ ((testing .s6).passUnit 0).takeOwn 90 ≠ (testing .s6).passUnit 0 ∧
        (((testing .s6).passUnit 0).takeOwn 90).ctl.mode = .setup) ∧
      ((beaconing .setup 63).ModesConsistent ∧ ((beaconing .setup 63).unit .beacon 0 10).ctl.mode = .reset) ∧
      ((held false 64 none).ModesConsistent ∧ ((held false 64 none).unit .idle 0 13).ctl.mode = .selftest) ∧
      ((beaconing .quiet 4).ModesConsistent ∧ ((beaconing .quiet 4).unit .octet 0 20).ctl.mode = .setup) ∧
      ((walking 5 100 2).ModesConsistent ∧
        (after (exec (.pinReset false) (walking 5 100 2))).ctl.mode = .reset) ∧
      (held true 0 none).ModesConsistent ∧
        (after (exec (.pinResetRelease 0) (held true 0 none))).ctl.mode = .selftest :=
  ⟨⟨agrees_sound (by decide +kernel), by decide +kernel⟩, ⟨agrees_sound (by decide +kernel), by decide +kernel⟩,
    ⟨agrees_sound (by decide +kernel), by decide +kernel⟩, ⟨agrees_sound (by decide +kernel), by decide +kernel⟩,
    ⟨agrees_sound (by decide +kernel), by decide +kernel⟩, agrees_sound (by decide +kernel), by decide +kernel⟩

/-- A node in QUIET with nothing to write, and one with a record queued. -/
theorem meets_QuietRetainsState :
    let s := node .quiet 5
    let u := { s with stl := { logging.stl with queue := [⟨0, false, 0, 0, 0, 0⟩], bank0 := .opening 0 3 } }
    (s.ModesConsistent ∧ s.ctl.mode = .quiet ∧ (after (exec .beaconUnit s)).ctl.mode = .quiet ∧ s.stl.queue = [] ∧
        ∀ b, (s.stl.bank b).isOpening = false) ∧
      u.ModesConsistent ∧ u.now = none ∧ (after (exec (.chiChange true) u)).ctl.mode = .quiet :=
  ⟨⟨agrees_sound (by decide +kernel), rfl, by decide +kernel, rfl, fun b => by cases b <;> rfl⟩,
    agrees_sound (by decide +kernel), rfl, by decide +kernel⟩

theorem meets_ReplyMemoryChangesOnlyAsStated :
    let r := request .write 0x030 1 [7]
    let s := hearing (node .setup 5) r
    (s.ModesConsistent ∧ (after (exec (.registerWrite r.block) s)).link.mem ≠ s.link.mem) ∧
      (remembering (node .setup 5) r).ModesConsistent ∧
        (after (exec (.pinReset false) (remembering (node .setup 5) r))).link.mem ≠ r.memory :=
  ⟨⟨agrees_sound (by decide +kernel), by decide +kernel⟩, agrees_sound (by decide +kernel), by decide +kernel⟩

theorem meets_StartAndBeaconUnitsReceived :
    (node .setup 5).link.rx = .listen ∧ (node .setup 5).link.beacons = 0 ∧
      (beaconing .setup 62).link.rx = .listen ∧ (beaconing .setup 62).link.beacons ≠ 63 ∧
      (beaconing .reset 255).link.beacons ≠ 63 ∧
      ∀ s ∈ [node .setup 5, beaconing .setup 62, beaconing .reset 255, held false 0 (some 2)],
        s.link.rx = .listen ∧ s.link.beacons ≠ 63 ∧ ∀ n ∈ s.ctl.softStep, 2 ≤ n := by
  decide +kernel

theorem meets_PinAndLinkResetApplyTable : (beaconing .run 63).link.beacons = 63 := rfl

/-- Each clause at the ends of its range of run lengths. -/
theorem meets_BeaconRunEndJudged :
    ∀ p ∈ [(Mode.quiet, 4#8), (.quiet, 7), (.quiet, 1), (.quiet, 3), (.quiet, 8), (.quiet, 63), (.setup, 1), (.setup, 7),
        (.run, 7), (.setup, 8), (.run, 63), (.selftest, 1), (.selftest, 63), (.reset, 63)],
      let s := beaconing p.1 p.2
      LinkUnit.start ≠ .beacon ∧ s.link.beacons ≠ 0 ∧ s.link.rx = .listen ∧ s.ctl.mode = p.1 ∧
        s.link.beacons.toNat = p.2.toNat ∧ (s.openUnit 20).ctl.mode = p.1 ∧ s.ctl.softStep = none := by
  decide +kernel

/-- The end of a run of 64 or more, of the pin reset and of the soft reset's step, without another cause and with one. -/
theorem meets_LastResetCauseEndsReset :
    (∀ s ∈ [held false 64 none, held false 255 (some 1), held true 64 none, held false 64 (some 16)],
      s.link.rx = .listen ∧ 64 ≤ s.link.beacons.toNat ∧ (s.openUnit 13).ctl.mode = .reset) ∧
      ((held false 64 none).openUnit 13).ctl.softStep = none ∧
      ((held false 255 (some 1)).openUnit 13).ctl.softStep = some 0 ∧
      ((held false 64 (some 16)).openUnit 13).ctl.softStep = some 15 ∧
      (∀ s ∈ [held true 63 none, held true 64 none, held true 0 (some 16)],
        (s.reach 12).ctl.mode = .reset ∧ (s.reach 12).ctl.rstnLow = true) ∧
      ((held false 0 (some 16)).ModesConsistent ∧ (held false 0 (some 16)).ctl.softStep = some 16) ∧
      ((held true 0 (some 1)).ModesConsistent ∧ (held true 0 (some 1)).ctl.softStep = some 1) ∧
      ∀ s ∈ [held false 0 (some 1), held true 0 (some 1)],
        s.link.rx = .listen ∧ s.link.beacons = 0 ∧ (s.openUnit 13).ctl.mode = .reset ∧
          (s.openUnit 13).ctl.softStep = some 0 ∧ s.link.beacons.toNat < 63 ∧
          64 ≤ (held false 64 (some 1)).link.beacons.toNat :=
  ⟨by decide +kernel, by decide +kernel, by decide +kernel, by decide +kernel, by decide +kernel,
    ⟨agrees_sound (by decide +kernel), rfl⟩, ⟨agrees_sound (by decide +kernel), rfl⟩, by decide +kernel⟩

theorem meets_FramingErrorCutsRequest :
    let s := (node .selftest 5).withRx (.header 7)
    let r := hearing (node .run 5) (request .write 0x030 1 [7])
    (∀ u ∈ [s, r], u.link.beacons = 0 ∧ (u.openUnit 70).ctl.mode.frames = true ∧ u.ctl.softStep = none) ∧
      LinkUnit.beacon ≠ .octet ∧ s.link.rx = .header 7 ∧
      r.link.rx = .data (request .write 0x030 1 [7]).hdr 5 ∧
      (request .write 0x030 1 [7]).hdr.command.hasBlock = true ∧
      (request .read 0x030 1 []).hdr.command.hasBlock = false := by
  decide +kernel

/-- A failed check; a DIRECT, a BROADCAST and a CHAIN_HEAD header the node follows; and four it does not. -/
theorem meets_HeaderJudgedAtItsEnd :
    let kept := fun (o : BitVec 56) (i : Ident) =>
      headerCheck (sealed o) = (sealed o).extractLsb' 0 8 ∧ i.addressed (Header.parse (sealed o)) = true
    let passed := fun (o : BitVec 56) (i : Ident) =>
      headerCheck (sealed o) = (sealed o).extractLsb' 0 8 ∧ i.addressed (Header.parse (sealed o)) = false
    headerCheck 0x0906000300000200 ≠ (0x0906000300000200 : BitVec 64).extractLsb' 0 8 ∧
      kept 0x3F060003000002 ⟨63, false⟩ ∧ kept 0x40460003000002 ⟨0, false⟩ ∧ kept 0x80060000000002 ⟨0, true⟩ ∧
      passed 0x00060003000002 ⟨0, false⟩ ∧ passed 0x3E060003000002 ⟨63, false⟩ ∧ passed 0xC0060003000002 ⟨1, true⟩ ∧
      passed 0x80060000000002 ⟨0, false⟩ ∧ passed 0x80060000000002 ⟨1, true⟩ := by
  decide +kernel

/-- LINK_CFG values at and beyond the ends of both ranges. -/
theorem meets_ReplyTokenAndDelays :
    ∀ p ∈ [(0x12#32, 2, 1), (0x89, 9, 8), (0x91, 1, 9), (0x0A, 10, 0)],
      (p.1.extractLsb' 0 4).toNat = p.2.1 ∧ (p.1.extractLsb' 4 4).toNat = p.2.2 := by
  decide +kernel

theorem meets_ReplyIsSentToItsEnd :
    let read := reply (request .read 0x030 64 [])
    let write := reply (request .write 0x030 1 [7])
    0 < read.ackDelay ∧ 1 ≤ read.readDelay ∧ read.data.isSome = true ∧ write.data = none ∧ 2 + 0 = 2 ∧ 257 + 0 + 1 = 258 ∧
      (node .setup 5).link.beacons = 0 ∧
      read.data.map (·.length) = some 258 ∧ write.after = .nothing ∧ (reply (order 3 0)).after = .enterQuiet ∧
      (reply (order 4 0)).after = .softReset := by
  decide +kernel

/-- The first token octet of an ACCEPT is 0100 0011: bit 1 is sent as 1, bit 0 as 0. -/
theorem meets_ClashEndsReply :
    ∀ r ∈ [reply (request .read 0x030 1 []), reply (order 3 0), reply (order 4 0)],
      r.token[0]? = some 0x43 ∧ (0x43 : Octet).getMsbD (1 : BitVec 3).toNat = true ∧
        (0x43 : Octet).getMsbD (0 : BitVec 3).toNat = false ∧ (0x43 : Octet).getMsbD (7 : BitVec 3).toNat = true := by
  decide +kernel

theorem meets_ReplyAbandoned :
    let s := fun r => (node .setup 5).withRx (.token r 2)
    ∀ r ∈ [request .read 0x030 1 [], order 3 0, order 4 0],
      (s (reply r)).link.rx.reply? = some (reply r, 2) ∧ ((s (reply r)).openUnit 70).ctl.mode.frames = true ∧
        (s (reply r)).ctl.softStep = none ∧ (s (reply r)).link.beacons = 0 :=
  fun _ _ => ⟨rfl, rfl, rfl, rfl⟩

/-- A WRITE that belongs to four rows, and one of 00Ah that belongs to REGISTER_WRITE only. -/
theorem meets_RequestRowsJudgeTheRequest :
    let r := request .write 0x021 3 [0, 0, 0x110]
    rowServes (.registerWrite r.block) r.hdr ∧ rowServes (.eventRetire r.block) r.hdr ∧
      rowServes (.clearLost r.block) r.hdr ∧ rowServes (.alertEnableWrite r.block) r.hdr ∧
      rowServes (.registerWrite ⟨[0], 0⟩) (request .write 0x00A 1 [0]).hdr := by
  simp [rowServes, Header.writesTo, Header.namesStore, Header.touches, request, Request.block]

/-- The same WRITE as the node hears it; a block too long; a request at its acceptance point. -/
theorem meets_RequestRowsJudgeTheRequest_heard :
    let r := request .write 0x021 3 [0, 0, 0x110]
    let s := hearing (node .run 5) r
    let q := request .read 0x030 1 []
    rowBlock (.clearLost r.block) = some r.block ∧ s.link.rx.followed = some r.hdr ∧ s.ctl.mode.frames = true ∧
      r.block.words.length = r.hdr.blockWords ∧ ([0, 0] : List Word).length ≠ r.hdr.blockWords ∧
      s.link.rx.blockLeft = 0 + 1 ∧ (hearing (node .setup 5) q).link.rx.blockLeft = 0 ∧
      (hearing (node .setup 5) q).link.rx = .data q.hdr 0 ∧ q.hdr.command.hasBlock = false := by
  decide +kernel

theorem meets_DataCheckAndDuplicateComeFirst :
    let bad := { request .write 0x030 1 [7] with check := 0 }
    let r := request .write 0x030 1 [7]
    let u := remembering (node .run 5) r
    (bad.hdr.command.hasBlock = true ∧ dataCheck bad.words ≠ bad.check) ∧
      dataCheck r.words = r.check ∧ r.hdr.addressing = .direct ∧ u.link.mem.valid = true ∧
      u.link.mem.recognises r = true := by
  decide +kernel

theorem meets_RefusalsAndDeferralsChangeNothingElse :
    let s := { node .setup 5 with sct := (State.reset).sct }
    s.verdict (request .read 0x007 1 []) = .refuse .badAddress ∧ s.verdict (order 6 0) = .refuse .badTable ∧
      (node .selftest 5).verdict (order 6 0) = .defer 15 ∧ s.verdict (request .read 0x4000 1 []) = .defer 2 := by
  decide +kernel

theorem meets_MatrixOfRequests :
    let far := request .read 0x03F 2 []
    let chained := Request.by (request .read 0x003 2 []) .chainHead
    let odd := request .unused7 0 0 []
    ((node .selftest 5).ctl.mode = .selftest ∧ far.hdr.addressing = .direct ∧ far.hdr.command.unused = false ∧
        0x03F < far.hdr.address.toNat + max 1 far.hdr.count.toNat - 1) ∧
      (∀ r ∈ [request .setId 0 1 [1], order 1 0, order 2 0],
        r.hdr.addressing = .direct ∧ r.hdr.command.hasBlock = true ∧ dataCheck r.words = r.check ∧
          (node .run 5).link.mem.recognises r = false) ∧
      (order 1 0).hdr.order = some .startRun ∧ (order 2 0).hdr.order = some .stopRun ∧
      (node .setup 0).ident.nodeId = 0 ∧
      (chained.hdr.command.unused = false ∧ chained.hdr.command ≠ .setId ∧
        0x003 < chained.hdr.address.toNat + max 1 chained.hdr.count.toNat - 1) ∧
      odd.hdr.command.unused = true := by
  decide +kernel

/-- A request for each refusal of steps 10 to 13, with every step before it passed; the boundary values of the ranges. -/
theorem meets_CountsAddressesAndValuesChecked :
    let u := node .setup 5
    let part := { request .write 0x030 1 [0] with hdr := { (request .write 0x030 1 [0]).hdr with lastEn := 7 } }
    (∀ p ∈ [(request .read 0x030 0 [], Reason.badCount), (request .read 0x030 65 [], .badCount),
        (request .drain 0 32 [], .badCount), (request .setId 0 2 [1, 2], .badCount), (request .order 7 0 [], .badCount),
        (request .read 0x007 1 [], .badAddress), (request .read 0x033 2 [], .badAddress),
        (request .read 0x407F 2 [], .badSpan), (request .write 0x005 2 [0, 0], .readOnly), (part, .badEnables),
        (request .write 0x004 1 [0x1A], .badValue),
        (request .write 0x018 1 [0x00810000], .badValue), (request .write 0x019 1 [0x2001], .badValue),
        (request .write 0x023 1 [17], .badValue), (request .write 0x11F 1 [0x1100], .badValue)],
      u.verdict p.1 = .refuse p.2) ∧
      dataCheck (request .write 0x023 1 [17]).words = (request .write 0x023 1 [17]).check ∧
      u.link.mem.recognises (request .write 0x023 1 [17]) = false ∧ u.stepLegal (request .order 7 0 []).hdr = none := by
  decide +kernel

/-- A request the node hears, without a data block. -/
theorem hears_request (m : Mode) (r : Request) (h : m.frames = true) (w : r.words.length = r.hdr.blockWords) :
    (hearing (node m 5) r).hears r := ⟨rfl, h, w⟩

/-- A DIRECT request the node hears that is no duplicate. -/
theorem hears_fresh (s : State) (c : Command) (a : BitVec 20) (n : BitVec 7) (ws : List Word)
    (h : s.ctl.mode.frames = true) (b : c.hasBlock = true) (w : ws.length = n.toNat)
    (v : (hearing s (request c a n [])).atPoint.link.mem.valid = false) :
    (hearing s (request c a n ws)).hearsFresh (request c a n ws) :=
  ⟨⟨rfl, h, by simpa [request, Header.blockWords, b] using w⟩, rfl, b, rfl,
    by rw [ReplyMemory.recognises, show (hearing s (request c a n ws)).atPoint.link.mem.valid = false from v]; rfl⟩

/-- The unused command and the unknown order as the node hears them. -/
theorem meets_MatrixOfRequests_rows :
    (hearing (node .setup 5) (request .unused5 0 127 [])).hears (request .unused5 0 127 []) ∧
      (hearing (node .setup 5) (order 10 0)).hearsFresh (order 10 0) ∧ Order.ofCode 10 = none ∧
      Order.ofCode 0 = none :=
  ⟨hears_request .setup _ rfl rfl, hears_fresh (node .setup 5) .order 10 1 [0] rfl rfl rfl (by decide +kernel), rfl, rfl⟩

/-- Reads that reach the last word of their region; in SELFTEST, and by CHAIN_HEAD addressing. -/
theorem meets_ReadReturnsSnapshot :
    (∀ p ∈ [(Mode.run, request .read 0x040 32 []), (.setup, request .read 0x200 64 []),
        (.selftest, request .read 0x033 1 []), (.selftest, Request.by (request .read 0x000 4 []) .chainHead)],
      let s := hearing (node p.1 5) p.2
      let a := p.2.hdr.address.toNat
      let n := p.2.hdr.count.toNat
      s.ctl.mode.frames = true ∧ p.2.hdr.command = .read ∧
        (p.2.hdr.addressing = .direct ∨ (p.2.hdr.addressing = .chainHead ∧ a + n ≤ 0x004)) ∧ 1 ≤ n ∧ n ≤ 64 ∧
        regionOf a ≠ none ∧ regionOf a ≠ some .store ∧ (∀ k < n, regionOf (a + k) = regionOf a) ∧
        s.atPoint.ctl.mode.frames = true ∧ (s.atPoint.ctl.mode = .selftest → a + n ≤ 0x040)) ∧
      (hearing (node .run 5) (request .read 0x040 32 [])).hears (request .read 0x040 32 []) := by
  refine ⟨by decide +kernel, hears_request .run _ rfl rfl⟩

/-- A node with the log in pages 0 to 15, page 1 of bank 0 open and bank 1 opening. -/
def storing : State :=
  { node .setup 5 with
    stl := { (node .setup 5).stl with cfg := 0x00100000, bank0 := .opened 1, bank1 := .opening 3 20 } }

/-- An open page at its end, a bank that is opening, a bank the writer claims, and a page that is just closed. -/
theorem meets_StoreReadNeedsOpenPage :
    let queued := { storing with stl := { storing.stl with queue := [⟨0, false, 0, 0, 0, 0⟩] } }
    let r := request .read 0x4080 64 []
    (hearing storing r).hears r ∧
      (hearing storing r).atPoint.stl = storing.stl ∧ (hearing queued r).atPoint.stl = queued.stl ∧
      (hearing storing r).atPoint.ctl.mode = .setup ∧
      (∀ r ∈ [request .read 0x40C0 64 [], request .read 0x7FFF 1 [], request .read 0x4000 1 []],
        0x4000 ≤ r.hdr.address.toNat ∧ r.hdr.address.toNat ≤ 0x7FFF ∧
          r.hdr.address.toNat % 128 + r.hdr.count.toNat ≤ 128) ∧
      storing.stl.bank (storing.stl.bankOf 1) = .opened (storing.stl.physicalPage 1) ∧
      (storing.stl.bank (storing.stl.bankOf 127)).isOpening = true ∧
      queued.stl.claims (queued.stl.bankOf 2) = true ∧
      storing.stl.bank (storing.stl.bankOf 2) ≠ .opened (storing.stl.physicalPage 2) ∧
      (storing.stl.bank (storing.stl.bankOf 2)).isOpening = false ∧ storing.stl.claims (storing.stl.bankOf 2) = false :=
  ⟨hears_request .setup _ rfl rfl, by decide +kernel⟩

/-- R117: words of both banks under both maps (the boundary words of each bank). -/
theorem meets_StoreMapReachesEveryWord :
    (∀ a ∈ [0x4000, 0x5FFF, 0x6000, 0x7FFF], 0x4000 ≤ a ∧ a ≤ 0x7FFF) ∧
      storing.stl.cfg.getLsbD 0 = false ∧ ({ storing.stl with cfg := 1 } : Store).cfg.getLsbD 0 = true := by
  decide +kernel

theorem meets_WindowsAndStatusWords : alerting.evu.queue.length = 3 ∧ alerting.evu.queue.length ≤ 16 := by decide +kernel

/-- A WRITE that covers every event-unit register, as the node hears it. -/
theorem meets_WriteExecutesItsWordsInOrder :
    let r := request .write 0x021 3 [0, 0, 0x110]
    (hearing (node .run 5) r).hearsFresh r ∧ (hearing (node .run 5) r).atPoint.WriteFits r := by
  refine ⟨hears_fresh (node .run 5) .write 0x021 3 _ rfl rfl rfl (by decide +kernel), .inr ?_, rfl, ?_, ?_, ?_, ?_,
    ?_, ?_, ?_⟩ <;> decide +kernel

/-- A WRITE of each other write row, with every check passed; a write in RUN where R59 allows it. -/
theorem meets_WriteExecutesItsWordsInOrder_rows :
    ∀ p ∈ [(Mode.run, request .write 0x004 2 [0x89, 0]), (.run, request .write 0x011 4 [0, 0, 0, 0]),
        (.setup, request .write 0x100 1 [0x1000]), (.run, request .write 0x19F 1 [0]), (.setup, request .write 0x2FF 1 [0]),
        (.run, request .write 0x3FF 1 [0]), (.run, request .write 0x00D 2 [1, 0]), (.setup, request .write 0x018 1 [0x800000]),
        (.run, request .write 0x01B 1 [0]), (.run, request .write 0x022 2 [0, 0x100])],
      (node p.1 5).verdict p.2 = .accept := by
  decide +kernel

theorem meets_WrittenWordsAct : (0 : Nat) < 4 ∧ (3 : Nat) < 4 ∧ (0 : Nat) < 32 ∧ (31 : Nat) < 32 := by decide

theorem meets_TableWindowsWriteByRole : (0 : Nat) < 256 ∧ (255 : Nat) < 256 := by decide

/-- A write of the last two words of an open page just above the log region. -/
theorem meets_StoreWriteChangesEnabledBytes :
    let r := request .write 0x487E 2 [1, 2]
    let s := { storing with stl := { storing.stl with bank0 := .opened 16 } }
    let u := (hearing s r).atPoint
    (hearing s r).hearsFresh r ∧ r.hdr.command = .write ∧ u.StoreCanonical ∧ u.ctl.mode = .setup ∧
      r.hdr.address.toNat % 128 + r.hdr.count.toNat ≤ 128 ∧
      ¬(u.stl.logFirst ≤ 16 ∧ 16 < u.stl.logFirst + u.stl.logPages) ∧
      u.stl.bank (u.stl.bankOf 16) = .opened (u.stl.physicalPage 16) := by
  refine ⟨hears_fresh _ .write 0x487E 2 _ rfl rfl rfl (by decide +kernel), ?_⟩
  unfold State.StoreCanonical
  decide +kernel

/-- The last log page, the page above it, and a WRITE each of the locked windows and registers. -/
theorem meets_LockedOrClosedWritesStoreNothing :
    let r := request .write 0x47FF 1 [1]
    let u := (hearing storing r).atPoint
    (hearing storing r).hearsFresh r ∧ u.ctl.mode = .setup ∧
      (∀ a n ws, dataCheck (request .write a n ws).words = (request .write a n ws).check) ∧
      (u.stl.logFirst ≤ 15 ∧ 15 < u.stl.logFirst + u.stl.logPages) ∧
      ¬(u.stl.logFirst ≤ 16 ∧ 16 < u.stl.logFirst + u.stl.logPages) ∧
      u.stl.bank (u.stl.bankOf 16) ≠ .opened (u.stl.physicalPage 16) ∧
      (∀ p ∈ [(0x2FF, 1, 0x300), (0x3C0, 64, 0x400), (0x11F, 1, 0x120)], p.1 + p.2.1 ≤ p.2.2) ∧
      (nodeSix 530).ctl.mode = .run ∧ (nodeSix 530).sct.commit.isSome = true ∧
      (nodeSix 530).link.mem.valid = false ∧
      8192 < ((0x2001 : Word).extractLsb' 0 14).toNat ∧ ((0x1000 : Word).extractLsb' 8 5).toNat = 16 ∧
      ∀ p ∈ [(0x00000000#32, 0, 0), (0x00800000, 0, 128), (0x00017F00, 127, 1), (0x00810000, 0, 129), (0x00027F00, 127, 2)],
        (p.1.extractLsb' 8 7).toNat = p.2.1 ∧ (p.1.extractLsb' 16 8).toNat = p.2.2 :=
  ⟨hears_fresh _ .write 0x47FF 1 _ rfl rfl rfl (by decide +kernel), by decide +kernel, fun _ _ _ => rfl,
    by decide +kernel⟩

/-- A SET_ID with any word, so with 0, 1, 63 and 64, by any addressing. -/
theorem meets_SetIdNamesTheNode (w : Word) (a : Addressing) :
    let r := Request.by (request .setId 0 1 [w]) a
    let s := hearing (node .setup 0) r
    s.hears r ∧ r.hdr.command = .setId ∧ r.words = [w] ∧ dataCheck r.words = r.check ∧
      s.atPoint.ctl.mode = .setup ∧ s.atPoint.link.mem.recognises r = false :=
  ⟨⟨rfl, rfl, rfl⟩, rfl, rfl, rfl, rfl, rfl⟩

theorem meets_ChoFollowsChiAndName :
    (∃ t, exec (.chiChange true) (node .run 5) = .next t ∧ t.ident.cho ≠ (node .run 5).ident.cho) ∧
      (∃ t, exec (.pinReset false) { node .run 5 with ident := ⟨5, true⟩ } = .next t ∧ t.ident.cho ≠ true) ∧
      State.reset.ctl.rstnLow = true ∧ 64 ≤ (held false 64 none).link.beacons.toNat :=
  ⟨⟨_, rfl, by decide +kernel⟩, ⟨_, rfl, by decide +kernel⟩, by decide +kernel⟩

/-- The example of 7.11 hears a DRAIN of the largest count; a resend, an empty log, and a head page that is closed. -/
theorem meets_DrainRetiresAndTakes :
    let a := after (exec .drain (hearing drained (drain31 9)))
    let closed := { a with stl := { a.stl with bank0 := .opened 7 } }
    (hearing drained (drain31 9)).hears ⟨(drain31 9).hdr, [], 0⟩ ∧
      ((drain31 9).hdr.count.toNat = 31 ∧ drained.stl.stamp = false) ∧
      ((hearing drained (drain31 9)).atPoint.stl = drained.stl ∧
        (hearing drained (drain31 9)).atPoint.ctl.mode = .setup) ∧
      ((hearing a (drain31 9)).atPoint.link.drain = ⟨true, 9⟩ ∧ (hearing a (drain31 9)).atPoint.stl = a.stl ∧
        a.stl.inFlight ≠ 0) ∧
      a.stl.pageOpen (a.stl.placePage a.stl.head) = true ∧
      closed.stl.pageOpen (closed.stl.placePage closed.stl.head) = false ∧
      drained.stl.pageOpen (drained.stl.placePage (drained.stl.placeAfter drained.stl.head 0)) = true ∧
      (node .setup 5).stl.logPages = 0 ∧ a.stl.inFlight ≤ 31 ∧ a.stl.count - a.stl.inFlight ≤ 8191 :=
  ⟨⟨rfl, rfl, rfl⟩, by decide +kernel⟩

/-- An ORDER as a node in a state that frames requests hears it: no duplicate, and judged in that state. -/
theorem meets_orders (m : Mode) (code : BitVec 20) (p : Word) (o : Order) (h : Order.ofCode code.toNat = some o)
    (f : m.frames = true) (v : (hearing (node m 5) (order code 0)).atPoint.link.mem.valid = false)
    (w : (hearing (node m 5) (order code 0)).atPoint.ctl.mode = m) :
    (hearing (node m 5) (order code p)).hearsFresh (order code p) ∧ (order code p).orders o ∧
      (hearing (node m 5) (order code p)).atPoint.ctl.mode = m :=
  ⟨hears_fresh _ .order code 1 [p] f rfl rfl v, ⟨rfl, h, rfl⟩, w⟩

/-- START_RUN after a failed test, with an invalid table, and with a valid one. -/
theorem meets_StartRunEntersRun :
    let r := order 1 0
    (hearing (node .setup 5) r).hearsFresh r ∧ r.orders .startRun ∧
      (∀ s ∈ [node .setup 5, { node .setup 5 with ctl := { (node .setup 5).ctl with testPassed := false } },
          { node .setup 5 with sct := State.reset.sct }],
        (hearing s r).atPoint.ctl = s.ctl ∧ (hearing s r).atPoint.ident.nodeId ≠ 0) ∧
      ((hearing (node .setup 5) r).atPoint.validate true).result = .valid ∧
      ((hearing { node .setup 5 with sct := State.reset.sct } r).atPoint.validate true).result ≠ .valid := by
  have h := meets_orders .setup 1 0 .startRun rfl rfl (by decide +kernel) (by decide +kernel)
  exact ⟨h.1, h.2.1, by decide +kernel⟩

/-- STOP_RUN of both kinds and of an unknown one, with each pending stop and sub-state the clauses name. -/
theorem meets_StopRunStopsOrWaits :
    (∀ p ∈ [0#32, 1, 2, 0xFFFFFFFF], (hearing (node .run 5) (order 2 p)).hearsFresh (order 2 p) ∧
        (order 2 p).orders .stopRun ∧ (hearing (node .run 5) (order 2 p)).atPoint.ctl.mode = .run) ∧
      ((hearing (walking 5 9 1) (order 2 0)).atPoint.lane.sub = .walking ∧
        (hearing (walking 5 9 1) (order 2 0)).atPoint.lane.inSlot = true ∧
        (hearing (walking 5 9 0) (order 2 0)).atPoint.lane.inSlot = false) ∧ 1 < (2 : Word).toNat :=
  ⟨fun p _ => meets_orders .run 2 p .stopRun rfl rfl (by decide +kernel) (by decide +kernel), by decide +kernel⟩

theorem meets_LeavingRunCarriesOutCommit :
    (nodeSix 530).sct.commit ≠ none ∧ (walking 5 9 1).sct.commit = none := by
  decide +kernel

theorem meets_QuietAndSoftResetWaitForReply :
    ∀ r ∈ [order 3 0, order 4 0, Request.by (order 3 0) .broadcast, Request.by (order 4 0) .broadcast],
      let s := hearing (node .setup 5) r
      s.hears r ∧ r.hdr.command = .order ∧ dataCheck r.words = r.check ∧ r.hdr.count = 1 ∧
        s.atPoint.link.mem.recognises r = false ∧ s.atPoint.ctl.mode = .setup := by
  unfold State.hears
  decide +kernel

theorem meets_RunSelftestBeginsTest :
    (hearing (node .setup 5) (order 5 0)).hearsFresh (order 5 0) ∧ (order 5 0).orders .runSelftest ∧
      (hearing (node .setup 5) (order 5 0)).atPoint.ctl.mode = .setup :=
  meets_orders .setup 5 0 .runSelftest rfl rfl (by decide +kernel) (by decide +kernel)

/-- A bad channel, a disabled one and END, each at its first or last value; and a table with none of them. -/
theorem meets_ValidationFindsFirstFailure :
    let s := { node .setup 5 with cap := State.reset.cap.setChannel 31 { Channel.initial with record := 0 } }
    let check := fun t => ({ s with sct := { s.sct with first := t } } : State).validate true
    check (table [0, 0x62]) = ⟨.badChannel, true, 1, 0⟩ ∧ check (table [0x7F]) = ⟨.badChannel, true, 0, 0⟩ ∧
      check (table [0, 0x5F]) = ⟨.channelDisabled, true, 1, 0⟩ ∧ check (table [0xE1]) = ⟨.valid, true, 0, 1⟩ ∧
      check ((Vector.replicate 256 0).set 255 0xC1) = ⟨.valid, true, 255, 256⟩ ∧
      check (Vector.replicate 256 0) = ⟨.noEnd, true, 255, 0⟩ := by
  decide +kernel

/-- Targets at the ends of both ranges of R88, from frame 0. -/
theorem meets_CommitSwapsOrWaits :
    let r := order 6 0x1FFFF
    (hearing (node .run 5) r).hearsFresh r ∧ r.orders .commit ∧
      (∀ s ∈ [node .run 5, nodeSix 530, { node .setup 5 with sct := State.reset.sct }],
        (hearing s r).atPoint.sct.commit = s.sct.commit ∧ (hearing s r).atPoint.ctl = s.ctl ∧
          (hearing s r).atPoint.lane.frame = s.lane.frame) ∧
      ((hearing (node .run 5) r).atPoint.validate false).result = .valid ∧ (nodeSix 530).sct.commit ≠ none ∧
      ((hearing { node .setup 5 with sct := State.reset.sct } r).atPoint.validate false).result ≠ .valid ∧
      ∀ p ∈ [(0x10001#32, 1), (0x17FFF, 32767), (0x10000, 0), (0x18000, 32768)],
        (p.1.extractLsb' 0 16 - (node .run 5).lane.frame).toNat = p.2 := by
  have h := meets_orders .run 6 0x1FFFF .commit rfl rfl (by decide +kernel) (by decide +kernel)
  exact ⟨h.1, h.2.1, by decide +kernel⟩

theorem meets_DiscardClearMuteLogReset :
    ((hearing (node .run 5) (order 7 0)).hearsFresh (order 7 0) ∧ (order 7 0).orders .discardStaged ∧
      (hearing (node .run 5) (order 7 0)).atPoint.ctl.mode = .run) ∧
      ((hearing (node .setup 5) (order 8 0)).hearsFresh (order 8 0) ∧ (order 8 0).orders .clearMute ∧
        (hearing (node .setup 5) (order 8 0)).atPoint.ctl.mode = .setup) ∧
      (hearing (node .run 5) (order 9 0)).hearsFresh (order 9 0) ∧ (order 9 0).orders .logReset ∧
        (hearing (node .run 5) (order 9 0)).atPoint.ctl.mode = .run :=
  ⟨meets_orders .run 7 0 .discardStaged rfl rfl (by decide +kernel) (by decide +kernel),
    meets_orders .setup 8 0 .clearMute rfl rfl (by decide +kernel) (by decide +kernel),
    meets_orders .run 9 0 .logReset rfl rfl (by decide +kernel) (by decide +kernel)⟩

/-- A bad data check; an unused command; a SET_ID; a WRITE to 11Fh and one to 120h; an ORDER refused, deferred, accepted. -/
theorem meets_BroadcastsExecuteOrAreIgnored :
    let cast := fun r => Request.by r .broadcast
    let bad := { cast (order 6 0) with check := 0 }
    dataCheck bad.words ≠ bad.check ∧ (cast (request .unused6 0 0 [])).hdr.command.unused = true ∧
      (cast (request .setId 0 1 [1])).hdr.broadcastPermitted = false ∧
      (cast (request .write 0x11F 1 [0x100])).hdr.broadcastPermitted = true ∧
      (cast (request .write 0x120 1 [0])).hdr.broadcastPermitted = false ∧
      (node .run 5).verdict (order 1 0) = .refuse .wrongState ∧
      ({ node .run 5 with ctl := { (node .run 5).ctl with stop := some .now } } : State).verdict (order 3 0) =
        .defer 15 ∧
      (node .run 5).verdict (order 9 0) = .accept ∧ (node .run 5).verdict (order 6 0) = .accept ∧
      ({ node .run 5 with sct := State.reset.sct } : State).verdict (order 6 0) = .refuse .badTable := by
  decide +kernel

/-- Every phase, its last unit still to come; failed words at the ends of the store. -/
theorem meets_PassingAndFailingPhases :
    ((testing .s1).ModesConsistent ∧ (testing .s1).link.rx = .listen ∧ (testing .s1).ste.units < Phase.length .s1) ∧
      (∀ p ∈ [Phase.s1, .s2, .s3, .s4, .s5, .s6],
        let u := (testing p).before (.selftestPhaseEnd [(0x7FFF, 1), (0x4000, 2)])
        (testing p).ste.phase = p ∧ p ≠ .idle ∧ u.ste.phase = p ∧ p.length ≤ u.ste.units ∧ u.ste.storeFaults = []) ∧
      Phase.s3.tests 0x7FFF = true ∧ Phase.s3.tests 0x3FFF = false ∧ (testing .s3).ste.fails = 0 ∧
      ([(0x7FFF#20, 1#32), (0x4000, 2)].map (·.1)).Nodup :=
  ⟨⟨agrees_sound (by decide +kernel), by decide +kernel⟩, by decide +kernel⟩

/-- Each outcome of the path of a message: not considered, failed parity, unclaimed, decimated, taken, offered. -/
theorem meets_FeedMessageJudged :
    let odd := 5#3 ++ 0#1 ++ 0x0012A#20 ++ 1#1
    let even := 5#3 ++ 0#1 ++ 0x0012A#20 ++ 0#1
    let waiting := { logging with cap := logging.cap.setFeed 1 { Feed.initial with rx := .waitIdle } }
    let ones := fun (b : BitVec 25) => (List.range 25).countP (fun k => b.getLsbD k)
    let once := after (exec (.feedMessage 1 even) logging)
    ((logging.reach 41).link.rx = .listen ∧ (logging.reach 41).ctl = logging.ctl) ∧
      ((logging.cap.feed 1).rx = .framing ∧ logging.cap.feedCfg.getLsbD 1 = true ∧ logging.ctl.mode = .run) ∧
      ones odd % 2 = 1 ∧ ones even % 2 = 0 ∧ (logging.cap.channel 13).record.getLsbD 0 = true ∧
      (logging.cap.channel 13).record.getLsbD 1 = true ∧ (logging.cap.channel 13).decim = 0 ∧
      (once.cap.channel 13).decim ≠ 0 ∧ (node .setup 5).ctl.mode ≠ .run ∧
      ({ Channel.initial with record := 0x100 } : Channel).record.getLsbD 0 = false ∧
      (waiting.cap.feed 1).rx = .waitIdle := by
  decide +kernel

/-- The append queue with seven records and with eight, in and out of a drop episode, and the log off. -/
theorem meets_FeedMessageJudged_offers :
    let s := fun n d => { logging.stl with queue := List.replicate n ⟨0, false, 0, 0, 0, 0⟩, disarmed := d }
    (s 7 false).logPages ≠ 0 ∧ (s 7 false).queue.length < 8 ∧ 8 ≤ (s 8 false).queue.length ∧
      (s 8 true).disarmed = true ∧ (s 8 false).disarmed = false ∧ (node .run 5).stl.logPages = 0 := by
  decide +kernel

/-- Commits due and not due at marker 531, and each pending stop. -/
theorem meets_FrameMarkerProcessed :
    (∀ p ∈ [(531#16, 0), (33300, 32767), (33299, 32768), (532, 65535)], ((531 : BitVec 16) - p.1).toNat = p.2) ∧
      (nodeSix 530).sct.commit = some ⟨true, 531, false⟩ ∧ (nodeSix 530).ctl.mode = .run ∧
      (nodeSix 530).ctl.stop = none ∧ (node .setup 5).ctl.mode ≠ .run ∧
      ((nodeSix 530).reach 30).sawMarker = { nodeSix 530 with now := some ⟨30, false, true, []⟩ } :=
  ⟨by decide +kernel, rfl, rfl, rfl, by decide +kernel, rfl⟩

/-- Tag phases won, lost at the first bit and lost at the last; ticks inside the table and beyond its end. -/
theorem meets_SlotTickProcessed :
    let reads := fun (id ltag : BitVec 6) (i : Nat) => id.getMsbD i = true → ltag.getMsbD i = true
    (∀ i < 6, reads 6 0x3F i) ∧ ¬reads 63 31 0 ∧ ¬reads 63 62 5 ∧ (∀ j < 5, reads 63 62 j) ∧
      (plan true).length = 6 ∧ (walking 6 531 5).lane.slotIndex < 6 ∧ 6 ≤ (walking 6 531 6).lane.slotIndex ∧
      ((plan true).entry 4).getLsbD 6 = true ∧ ((plan true).entry 0).getLsbD 6 = false ∧
      (walking 6 531 5).reach 50 = { walking 6 531 5 with now := some ⟨50, false, false, []⟩ } :=
  ⟨by decide +kernel, by decide +kernel, by decide +kernel, by decide +kernel, by decide +kernel, by decide +kernel,
    by decide +kernel, by decide +kernel, by decide +kernel, rfl⟩

theorem meets_LaneFaultsMute :
    LaneFault.scheduleShort ≠ .none ∧ (walking 6 531 4).lane.muted = false ∧
      ((walking 6 531 4).laneFault .scheduleShort 0 6).lane.muted = true := by
  decide +kernel

theorem meets_SlotWordLayout : (0 : Nat) ≤ 33 ∧ (31 : Nat) ≤ 33 ∧ (32 : Nat) ≤ 33 ∧ (33 : Nat) ≤ 33 := by decide

/-- Instants a unit joins and does not join; an open with all its units to pass and one at its end; a frame watch one
unit before its shortest limit, at it, and just re-armed. -/
theorem meets_CountsRunOutWithUnits :
    let s := fun k => { walking 5 9 1 with lane := { (walking 5 9 1).lane with watchCfg := 1, watchCount := k } }
    let done := { storing with stl := { storing.stl with bank1 := .opening 3 0 } }
    (∀ m ∈ [(⟨0, false, false, []⟩ : Moment), ⟨60, false, true, [.opening .bank0]⟩], m.unit = false ∧ m.place < 70) ∧
      (∀ page n, (node .setup 5).stl.bank .bank0 ≠ .opening page n) ∧
      (storing.ModesConsistent ∧ storing.link.rx = .listen ∧ storing.ctl.mode = .setup ∧
        storing.stl.bank .bank1 = .opening 3 20 ∧ done.stl.bank .bank1 = .opening 3 0) ∧
      ((s 255).ModesConsistent ∧ (s 255).now = none ∧ (s 255).link.rx = .listen ∧ (s 255).ctl.mode = .run ∧
        (s 255).lane.watchCfg.extractLsb' 0 8 ≠ 0 ∧ (s 255).lane.watchExpired = false) ∧
      ((s 256).lane.watchCfg.extractLsb' 0 8).toNat * 256 ≤ (s 256).lane.watchCount ∧
      ((s 0).reach 30).now ≠ none ∧ ((s 0).reach 30).lane.watchCount = 0 ∧
      (storing.close.link.rx.stalled = false ∧ ((node .setup 5).withRx (.header 7)).close.link.rx.stalled = true) :=
  ⟨by decide +kernel, fun _ _ h => PageState.noConfusion h, ⟨agrees_sound (by decide +kernel), by decide +kernel⟩,
    ⟨agrees_sound (by decide +kernel), by decide +kernel⟩, by decide +kernel⟩

/-- A queued record with the log full under HALT, with its page opening, closed, and open. -/
theorem meets_LogWriterTakesStep :
    let o : Offer := ⟨13, false, 41, 0x0012A, 3, 100⟩
    let s := { storing with stl := { storing.stl with queue := [o], writerDue := true } }
    let bank := fun b => { s.stl with bank0 := b }
    let u := s.before .logWriterStep
    (u.stl.writerDue = true ∧ u.ctl.mode ≠ .reset ∧ u.stl.queue = [o]) ∧
      ((node .setup 5).before .logWriterStep).stl.queue = [] ∧ (held true 0 none).ctl.mode = .reset ∧
    s.ctl.mode ≠ .reset ∧ s.stl.queue = [o] ∧ ({ s.stl with count := 1024 } : Store).capacity = 1024 ∧
      s.stl.overwrite = false ∧ s.stl.logPages ≠ 0 ∧ s.stl.count ≠ s.stl.capacity ∧
      ((bank (.opening 2 9)).bank .bank0).isOpening = true ∧ ((bank .none).bank .bank0).isOpening = false ∧
      (bank (.opened 0)).bank ((bank (.opened 0)).bankOf 0) = .opened ((bank (.opened 0)).physicalPage 0) := by
  decide +kernel

/-- An event in RESET, a disabled one, one that finds 16 records and one that finds 15. -/
theorem meets_RaisedEventsAreQueuedOrLost :
    let s := fun n => { node .setup 5 with evu := { alerting.evu with queue := List.replicate n ⟨.feedParity, 0, 0, 0⟩ } }
    State.reset.ctl.mode = .reset ∧ (s 16).evu.enable.getLsbD EventKind.headerCheck.code = false ∧
      (s 16).evu.enable.getLsbD EventKind.feedParity.code = true ∧ 16 ≤ (s 16).evu.queue.length ∧
      (s 15).evu.queue.length < 16 ∧ ((node .setup 5).reach 70).now ≠ none := by
  decide +kernel

end Sys2Proof.Tests
end

section
/-! SUPPORT. NODE_ID and the CHI level (R29 to R31): every operation of the node keeps them, but for the pin and link
resets, SET_ID and CHI_CHANGE. -/

namespace Sys2Proof.Machine

open Sys2Proof (Instr LinkUnit Bank Block)

/-! ## Writes -/

@[simp] theorem State.writeRegister_ident (s : State) (a : Nat) (w : Word) :
    (s.writeRegister a w).ident = s.ident := by
  unfold State.writeRegister; split <;> rfl

@[simp] theorem State.writeWord_ident (s : State) (a : Nat) (w : Word) : (s.writeWord a w).ident = s.ident := by
  unfold State.writeWord
  split
  · exact s.writeRegister_ident a w
  all_goals rfl

@[simp] theorem State.writeFrom_ident (s : State) (a : Nat) (ws : List Word) :
    (s.writeFrom a ws).ident = s.ident := by
  induction ws generalizing s a with
  | nil => rfl
  | cons w ws ih => simp [State.writeFrom, ih]

/-! ## What executed requests do -/

theorem applyWrite_ident (r : Request) (s : State) : (applyWrite r s).ident = s.ident := by
  simp [applyWrite, apply_ite State.ident]

theorem applyDrain_ident (r : Request) (s : State) : (applyDrain r s).ident = s.ident := by
  simp [applyDrain, apply_ite State.ident]

theorem applyNoBlock_ident (r : Request) (s : State) : (applyNoBlock r s).ident = s.ident := by
  simp [applyNoBlock, apply_ite State.ident, applyDrain_ident]

theorem applyStopRun_ident (r : Request) (s : State) : (applyStopRun r s).ident = s.ident := by
  simp [applyStopRun, State.stopNow, State.stopAtFrame, apply_ite State.ident]

theorem applyEnterQuiet_ident (r : Request) (s : State) : (applyEnterQuiet r s).ident = s.ident := by
  simp [applyEnterQuiet, apply_ite State.ident]

/-- A soft reset keeps NODE_ID (R40). -/
@[simp] theorem Ident.reset_soft (i : Ident) : i.reset .soft = i := rfl

theorem applySoftReset_ident (r : Request) (s : State) : (applySoftReset r s).ident = s.ident := by
  simp [applySoftReset, apply_ite State.ident]

theorem applyCommit_ident (r : Request) (s : State) : (applyCommit r s).ident = s.ident := by
  simp [applyCommit, State.holdCommit, apply_ite State.ident]

/-! ## Verdicts -/

section
variable {s : State} {apply : State → State} {r : Request}

theorem State.settle_ident (h : ∀ u, (apply u).ident = u.ident) (v : Verdict) :
    (s.settle apply r v).ident = s.ident := by
  rcases s.settle_cases apply r v with ⟨-, e⟩ | ⟨-, e⟩ | ⟨-, e⟩ | ⟨-, e⟩ | ⟨-, e⟩ <;> simp [e, h]

theorem State.settleBroadcast_ident (h : ∀ u, (apply u).ident = u.ident) :
    (s.settleBroadcast apply r).ident = s.ident := by
  unfold State.settleBroadcast
  split_ifs
  · simp
  · rfl
  · simp
  · simp
  · split <;> simp [h]

/-- A judged request keeps NODE_ID and CHI when its command does. -/
theorem State.judge_ident (h : ∀ u, (apply u).ident = u.ident) : (s.judge apply r).ident = s.ident := by
  unfold State.judge State.judgeAddressed
  split_ifs
  · simp [State.settleBroadcast_ident h]
  · simp [State.settle_ident h]

end

/-! ## The node's own events -/

@[simp] theorem State.hold_ident (s : State) (f : FailedWord) : (s.hold f).ident = s.ident := by
  unfold State.hold
  dsimp only
  repeat' split
  all_goals rfl

theorem State.foldl_hold_ident (s : State) (bad : List FailedWord) : (bad.foldl State.hold s).ident = s.ident := by
  induction bad generalizing s with
  | nil => rfl
  | cons f fs ih => simp [ih]

@[simp] theorem State.phaseEffect_ident (s : State) (p : Phase) (bad : List FailedWord) :
    (s.phaseEffect p bad).ident = s.ident := by
  cases p with
  | s1 => exact s.foldl_hold_ident bad
  | _ => rfl

@[simp] theorem State.endPhaseIfDone_ident (s : State) (failed : List FailedWord) :
    (s.endPhaseIfDone failed).ident = s.ident := by
  rcases s.endPhaseIfDone_cases failed with ⟨-, -, e⟩ | ⟨-, e⟩ <;> simp [e, State.endPhase]

@[simp] theorem State.judgeWaiting_ident (s : State) : s.judgeWaiting.ident = s.ident := by
  rcases s.judgeWaiting_cases with ⟨h, k, -, -, -, e⟩ | e <;> rw [e]
  exact State.judge_ident (applyNoBlock_ident _)

@[simp] theorem State.takeOwn_ident (s : State) (p : Nat) : (s.takeOwn p).ident = s.ident := by
  simp [State.takeOwn, apply_ite State.ident]

/-! ## Instants -/

@[simp] theorem State.close_ident (s : State) : s.close.ident = s.ident := by
  rcases s.close_cases with ⟨-, e⟩ | ⟨m, -, e⟩ <;> simp [e]

@[simp] theorem State.reach_ident (s : State) (p : Nat) : (s.reach p).ident = s.ident := by
  rcases s.reach_cases p with ⟨m, -, -, e⟩ | ⟨-, e⟩ <;> simp [e]

@[simp] theorem State.openUnit_ident (s : State) (p : Nat) : (s.openUnit p).ident = s.ident := by
  rcases s.openUnit_cases p with ⟨m, -, -, e⟩ | ⟨-, e⟩ <;> simp [e]

@[simp] theorem State.forUnit_ident (s : State) : s.forUnit.ident = s.ident := by
  simp [State.forUnit, apply_ite State.ident]

/-! ## A unit -/

/-- `t` is `s` after a pin or link reset, which clears NODE_ID (R29), and is still held in RESET. -/
structure State.UnnamedByReset (s t : State) : Prop where
  ident : t.ident = { s.ident with nodeId := 0 }
  mode : t.ctl.mode = .reset
  cause : t.ctl.resetCause = .powerPin ∨ t.ctl.resetCause = .link

theorem State.beginReset_unnamed (s : State) {k : ResetCause} (h : k = .powerPin ∨ k = .link) :
    s.UnnamedByReset (s.beginReset k) := by
  refine ⟨?_, rfl, h⟩
  rcases h with rfl | rfl <;> rfl

/-- What follows the end of a reply is QUIET or a soft reset, and both keep NODE_ID (R40). -/
@[simp] theorem State.endReply_ident (s : State) (r : Reply) : (s.endReply r).ident = s.ident := by
  rcases s.endReply_cases r with ⟨-, e⟩ | ⟨-, e⟩ | ⟨-, e⟩ <;> simp [e]

@[simp] theorem State.replyUnit_ident (s : State) (u : LinkUnit) : (s.replyUnit u).ident = s.ident := by
  unfold State.replyUnit
  split <;> simp [apply_ite State.ident]

@[simp] theorem State.endCauses_ident (s : State) (u : LinkUnit) (mid : BitVec 4) :
    (s.endCauses u mid).ident = s.ident := by
  rcases s.endCauses_cases u mid with ⟨-, e⟩ | ⟨-, -, e⟩ <;> simp [e]

@[simp] theorem State.linkStep_ident (s : State) (u : LinkUnit) (p : Nat) : (s.linkStep u p).ident = s.ident := by
  have cut (v : State) : v.cutShort.ident = v.ident := by
    rcases v.cutShort_cases with ⟨r, k, -, e⟩ | ⟨-, e⟩ <;> simp [e]
  rcases s.linkStep_cases u p with ⟨-, e⟩ | ⟨-, -, -, e⟩ | ⟨-, -, -, e⟩ | ⟨-, -, e⟩ <;>
    simp [e, apply_ite State.ident, cut]

theorem State.tryLeaveReset_of_held {s : State} (h : s.resetHeld = true) (mid : BitVec 4) :
    s.tryLeaveReset mid = s := by
  simp [State.tryLeaveReset, h]

/-- A BEACON ends no link reset: while its run goes on the node stays in RESET (R44, R55). -/
theorem State.endCauses_beacon_of_run {s : State} (h : 64 ≤ s.link.beacons.toNat) (mid : BitVec 4) :
    (s.endCauses .beacon mid).ctl.mode = s.ctl.mode ∧
      (s.endCauses .beacon mid).ctl.resetCause = s.ctl.resetCause ∧
      (s.endCauses .beacon mid).link.rx = s.link.rx := by
  rcases s.endCauses_cases .beacon mid with ⟨-, e⟩ | ⟨-, -, e⟩
  · rw [e, State.tryLeaveReset_of_held (by simp [State.resetHeld, h])]
    exact ⟨rfl, rfl, rfl⟩
  · simp [e]

theorem State.earlySteps_beacon (s : State) (mid : BitVec 4) :
    s.earlySteps .beacon mid = (s.replyUnit .beacon).countBeacon.endCauses .beacon mid := by
  simp [State.earlySteps]

/-- In LISTEN a BEACON cuts nothing short (R3). -/
theorem State.linkStep_beacon_of_listen {s : State} (h : s.link.rx = .listen) (p : Nat) :
    s.linkStep .beacon p = s := by
  simp [State.linkStep, h, RxState.cutBy, RxState.inRequest, RxState.reply?]

/-- A BEACON that is not the 64th of a run keeps NODE_ID and CHI; the 64th is a link reset (R55). -/
theorem State.unit_beacon_ident_cases (s : State) (mid : BitVec 4) (p : Nat) :
    (s.unit .beacon mid p).ident = s.ident ∨ s.UnnamedByReset (s.unit .beacon mid p) := by
  obtain ⟨v, hv⟩ : ∃ v, (s.openUnit p).replyUnit .beacon = v := ⟨_, rfl⟩
  have kept : v.ident = s.ident := by simp [← hv]
  have unit : s.unit .beacon mid p = (v.countBeacon.endCauses .beacon mid).linkStep .beacon p := by
    rw [State.unit, State.earlySteps_beacon, hv]
  rcases v.countBeacon_cases with ⟨h63, e⟩ | ⟨-, e⟩
  · have begun : s.UnnamedByReset v.countBeacon := by
      have := State.beginReset_unnamed
        { v with link := { v.link with beacons := satInc v.link.beacons } } (k := .link) (.inr rfl)
      exact e ▸ ⟨this.ident.trans (by rw [kept]), this.mode, this.cause⟩
    have run : 64 ≤ v.countBeacon.link.beacons.toNat := by
      rw [e]; simp [Link.reset, h63, satInc_eight]
    obtain ⟨mode, cause, rx⟩ := State.endCauses_beacon_of_run run mid
    rw [unit, State.linkStep_beacon_of_listen (by rw [rx, e]; rfl)]
    exact .inr ⟨(State.endCauses_ident ..).trans begun.ident, mode ▸ begun.mode, cause ▸ begun.cause⟩
  · left
    simp [unit, e, kept]

/-- A unit other than BEACON keeps NODE_ID and CHI. -/
theorem State.unit_ident {u : LinkUnit} (h : u ≠ .beacon) (s : State) (mid : BitVec 4) (p : Nat) :
    (s.unit u mid p).ident = s.ident := by
  simp [State.unit, State.earlySteps, h, apply_ite State.ident]

theorem State.receive_ident {u : LinkUnit} (h : u ≠ .beacon) (s : State) (mid : BitVec 4) :
    (s.receive u mid).ident = s.ident :=
  State.unit_ident h ..

/-- A unit received keeps NODE_ID and CHI, or is the 64th BEACON of a run. -/
theorem State.receive_ident_cases (s : State) (u : LinkUnit) (mid : BitVec 4) :
    (s.receive u mid).ident = s.ident ∨ s.UnnamedByReset (s.receive u mid) := by
  by_cases h : u = .beacon
  · subst h
    exact s.unit_beacon_ident_cases mid _
  · exact .inl (State.receive_ident h s mid)

/-! ## Units that pass -/

theorem RxState.filler_ne_beacon (rx : RxState) : rx.filler ≠ .beacon := by
  unfold RxState.filler; split <;> simp

@[simp] theorem State.passUnit_ident (s : State) (mid : BitVec 4) : (s.passUnit mid).ident = s.ident := by
  rcases s.passUnit_cases mid with ⟨-, e⟩ | ⟨-, e⟩ <;> rw [e]
  · exact s.forUnit_ident
  · rw [State.receive_ident (RxState.filler_ne_beacon _), State.forUnit_ident]

@[simp] theorem State.passWhile_ident (going : State → Bool) (mid : BitVec 4) (n : Nat) (s : State) :
    (State.passWhile going mid n s).ident = s.ident := by
  induction n generalizing s with
  | zero => rfl
  | succ n ih => unfold State.passWhile; split <;> simp [ih]

@[simp] theorem State.passUnits_ident (n : Nat) (s : State) : (s.passUnits n).ident = s.ident :=
  State.passWhile_ident ..

@[simp] theorem State.lastOctet_ident (s : State) : s.lastOctet.ident = s.ident := by
  rw [State.lastOctet, State.reach_ident, State.unit_ident (by simp)]

@[simp] theorem State.atHeaderEnd_ident (s : State) (k : Nat) : (s.atHeaderEnd k).ident = s.ident := by
  simp [State.atHeaderEnd]

@[simp] theorem State.atPoint_ident (s : State) : s.atPoint.ident = s.ident := by
  unfold State.atPoint; split <;> simp

/-! ## Feeds and lane -/

@[simp] theorem State.takeMessage_ident (s : State) (feed : BitVec 2) (bits : BitVec 25) :
    (s.takeMessage feed bits).ident = s.ident := by
  simp [State.takeMessage, State.parityFailed, State.unclaimedMessage, State.claimMessage, apply_ite State.ident]

@[simp] theorem State.commitAtMarker_ident (s : State) (n : BitVec 16) : (s.commitAtMarker n).ident = s.ident := by
  unfold State.commitAtMarker
  split <;> simp [apply_ite State.ident]

@[simp] theorem State.takeMarker_ident (s : State) (n : BitVec 16) : (s.takeMarker n).ident = s.ident := by
  simp [State.takeMarker, State.recordMarker, State.completeness, apply_ite State.ident]

@[simp] theorem State.driveSlot_ident (s : State) (c : Nat) (ltag : BitVec 6) :
    (s.driveSlot c ltag).ident = s.ident := by
  unfold State.driveSlot State.loseSlot State.placeWord
  split <;> simp

@[simp] theorem State.walkEntry_ident (s : State) (ltag : BitVec 6) : (s.walkEntry ltag).ident = s.ident := by
  simp [State.walkEntry, apply_ite State.ident]

@[simp] theorem State.extraTick_ident (s : State) : s.extraTick.ident = s.ident := by
  simp [State.extraTick, apply_ite State.ident]

@[simp] theorem State.takeTick_ident (s : State) (ltag : BitVec 6) : (s.takeTick ltag).ident = s.ident := by
  have release : s.releaseSlot.ident = s.ident := rfl
  unfold State.takeTick
  repeat' split
  all_goals simp [release]

/-! ## Commands -/

/-- Where the command leads, NODE_ID and the CHI level are those of `s`. -/
def State.IdentKept (s : State) (x : Result) : Prop := ∀ t, x = .next t → t.ident = s.ident

theorem State.IdentKept.next {s u : State} (h : u.ident = s.ident) : s.IdentKept (.next u) := by
  rintro t ⟨⟩
  exact h

theorem State.IdentKept.ite {s : State} {c : Prop} [Decidable c] {x y : Result} (hx : s.IdentKept x)
    (hy : s.IdentKept y) : s.IdentKept (if c then x else y) := by
  split
  · exact hx
  · exact hy

/-- A request row keeps NODE_ID and CHI when its command does. -/
theorem State.takeRequest_identKept {apply : Request → State → State} (h : ∀ r u, (apply r u).ident = u.ident)
    (s : State) (belongs : Header → Bool) (b : Block) : s.IdentKept (s.takeRequest belongs b apply) := by
  rcases s.takeRequest_cases belongs b apply with e | ⟨r, -, -, -, e⟩ <;> rw [e]
  · exact .next rfl
  · exact .next (by rw [State.judge_ident (h r), State.atPoint_ident])

theorem State.passUnits_identKept (s : State) (n : Nat) :
    s.IdentKept (if n = 0 then .next s else .next (s.passUnits n)) :=
  .ite (.next rfl) (.next (s.passUnits_ident n))

theorem execStartUnit_identKept (mid : BitVec 4) (s : State) : s.IdentKept (execStartUnit mid s) :=
  .next (State.receive_ident (by simp) s mid)

theorem execHeaderReceived_identKept (o : BitVec 64) (s : State) : s.IdentKept (execHeaderReceived o s) := by
  unfold execHeaderReceived
  split
  · exact .next (by simp [State.judgeHeader, State.headerFailed, apply_ite State.ident])
  · exact .next rfl

theorem execReplyClash_identKept (bit : BitVec 3) (s : State) : s.IdentKept (execReplyClash bit s) := by
  unfold execReplyClash
  split
  · exact .ite (.next (by simp [State.loseClash, apply_ite State.ident])) (.next rfl)
  · exact .next rfl

theorem execPinResetRelease_identKept (mid : BitVec 4) (s : State) : s.IdentKept (execPinResetRelease mid s) :=
  .next (by simp [State.pinRelease, apply_ite State.ident])

theorem execSoftResetStepDone_identKept (mid : BitVec 4) (s : State) :
    s.IdentKept (execSoftResetStepDone mid s) := by
  unfold execSoftResetStepDone
  split
  · exact .next (by simp)
  · exact .next rfl

theorem execSelftestPhaseEnd_identKept (failed : List FailedWord) (s : State) :
    s.IdentKept (execSelftestPhaseEnd failed s) :=
  .ite (.next rfl) (.next (by simp))

theorem execFeedMessage_identKept (feed : BitVec 2) (bits : BitVec 25) (s : State) :
    s.IdentKept (execFeedMessage feed bits s) :=
  .next (by simp)

theorem execFeedReceiverResync_identKept (feed : BitVec 2) (s : State) :
    s.IdentKept (execFeedReceiverResync feed s) :=
  .ite (.next (by simp)) (.next (by simp))

theorem execFrameMarker_identKept (number : BitVec 16) (s : State) : s.IdentKept (execFrameMarker number s) :=
  .next (by simp)

theorem execSlotTick_identKept (ltag : BitVec 6) (s : State) : s.IdentKept (execSlotTick ltag s) :=
  .next (by simp)

theorem execFrameWatchExpiry_identKept (s : State) : s.IdentKept (execFrameWatchExpiry s) :=
  .ite (.next rfl) (.next (by simp))

theorem execLogWriterStep_identKept (s : State) : s.IdentKept (execLogWriterStep s) :=
  .ite (.next (by simp)) (.next rfl)

theorem execPageOpenDone_identKept (b : Bank) (s : State) : s.IdentKept (execPageOpenDone b s) := by
  unfold execPageOpenDone
  split
  · exact .next (by simp)
  · exact .next rfl

/-- The rows that are one unit, or nothing when their unit cannot come. -/
theorem unit_or_nothing_ident_cases {c : Prop} [Decidable c] {s t : State} {u : LinkUnit} {mid : BitVec 4}
    (h : (if c then (.next (s.receive u mid) : Result) else .next s) = .next t) :
    t.ident = s.ident ∨ s.UnnamedByReset t := by
  split at h <;> obtain rfl := Host.Outcome.next.inj h
  · exact s.receive_ident_cases u mid
  · exact .inl rfl

theorem execPinReset_unnamed {power : Bool} {s t : State} (h : execPinReset power s = .next t) :
    s.UnnamedByReset t := by
  obtain rfl := Host.Outcome.next.inj h
  have := State.beginReset_unnamed
    { s.reach 11 with
      ctl := { (s.reach 11).ctl with
        rstnLow := true, softStep := if power then none else (s.reach 11).ctl.softStep }
      link := { (s.reach 11).link with beacons := if power then 0 else (s.reach 11).link.beacons } }
    (k := .powerPin) (.inl rfl)
  exact ⟨this.ident.trans (by simp), this.mode, this.cause⟩

/-! ## SET_ID -/

/-- A SET_ID that passes steps 8 to 16 brings an ID from 1 to 63 (R33). -/
theorem State.setId_param_of_passes {s : State} {r : Request} (hc : r.hdr.command = .setId)
    (h : s.laterSteps r = none) : 1 ≤ r.param.toNat ∧ r.param.toNat ≤ 63 := by
  simp only [State.laterSteps, Option.or_eq_none_iff] at h
  obtain ⟨-, -, -, -, -, value, -⟩ := h
  simpa [Request.stepValue, Header.order, hc] using value

/-- A SET_ID is executed after it has passed steps 8 to 16 (R16). -/
theorem State.laterSteps_of_accept {s : State} {r : Request} (h : s.verdict r = .accept) :
    s.laterSteps r = none := by
  unfold State.verdict at h
  split_ifs at h
  rcases s.laterSteps_cases r with e | ⟨why, -, e⟩ | e | e
  · exact e
  all_goals simp [e] at h

/-- A judged SET_ID keeps NODE_ID and CHI, or it names the node and leaves CHI alone (R33 to R35). -/
theorem State.judge_setId_ident {s : State} {r : Request} (hc : r.hdr.command = .setId) :
    (s.judge (applySetId r) r).ident = s.ident ∨
      ((s.judge (applySetId r) r).ident.chi = s.ident.chi ∧ (s.judge (applySetId r) r).ident.nodeId ≠ 0) := by
  by_cases hb : r.hdr.addressing = .broadcast
  · left
    have forbidden : r.hdr.broadcastPermitted = false := by simp [Header.broadcastPermitted, hc]
    simp [State.judge_broadcast hb, State.settleBroadcast, forbidden, apply_ite State.ident]
  rw [State.judge_addressed hb]
  unfold State.judgeAddressed
  simp only [State.withRx_ident]
  rcases s.settle_cases (applySetId r) r (s.verdict r) with ⟨hv, e⟩ | ⟨-, e⟩ | ⟨-, e⟩ | ⟨-, e⟩ | ⟨-, e⟩
  · obtain ⟨hlo, hhi⟩ := State.setId_param_of_passes hc (State.laterSteps_of_accept hv)
    refine .inr ⟨by simp [e, applySetId], ?_⟩
    have named : r.param.setWidth 6 ≠ 0#6 := by bv_omega
    simpa [e, applySetId] using named
  all_goals exact .inl (by simp [e])

theorem execSetId_ident_cases {b : Block} {s t : State} (h : execSetId b s = .next t) :
    t.ident = s.ident ∨ (t.ident.chi = s.ident.chi ∧ t.ident.nodeId ≠ 0) := by
  rcases s.takeRequest_cases (·.command = .setId) b applySetId with e | ⟨r, -, hc, -, e⟩ <;>
    obtain rfl := Host.Outcome.next.inj (e.symm.trans h)
  · exact .inl rfl
  · simpa using s.atPoint.judge_setId_ident (r := r) (by simpa using hc)

/-! ## Every command -/

/-- All that a command can do to NODE_ID and CHI (R29, R31): nothing, a change of CHI, a SET_ID that names the node,
or a pin or link reset. -/
theorem exec_ident_cases {c : Instr} {s t : State} (h : exec c s = .next t) :
    t.ident = s.ident ∨ (∃ level, c = .chiChange level) ∨
      (∃ b, c = .setId b ∧ t.ident.chi = s.ident.chi ∧ t.ident.nodeId ≠ 0) ∨ s.UnnamedByReset t := by
  cases c with
  | chiChange level => exact .inr (.inl ⟨level, rfl⟩)
  | setId b => exact (execSetId_ident_cases h).imp_right fun hb => .inr (.inl ⟨b, rfl, hb⟩)
  | pinReset power => exact .inr (.inr (.inr (execPinReset_unnamed h)))
  | beaconUnit =>
    obtain rfl := Host.Outcome.next.inj h
    exact (s.receive_ident_cases _ _).imp_right (.inr ∘ .inr)
  | beaconRunEnd u mid | framingError u | replyTruncated u =>
    exact (unit_or_nothing_ident_cases h).imp_right (.inr ∘ .inr)
  | startUnit mid => exact .inl (execStartUnit_identKept mid s t h)
  | headerReceived o => exact .inl (execHeaderReceived_identKept o s t h)
  | ackTokenSend | readDataSend | replyEnd => exact .inl (s.passUnits_identKept _ t h)
  | replyClash bit => exact .inl (execReplyClash_identKept bit s t h)
  | pinResetRelease mid => exact .inl (execPinResetRelease_identKept mid s t h)
  | softResetStepDone mid => exact .inl (execSoftResetStepDone_identKept mid s t h)
  | selftestPhaseEnd failed => exact .inl (execSelftestPhaseEnd_identKept failed s t h)
  | feedMessage feed bits => exact .inl (execFeedMessage_identKept feed bits s t h)
  | feedReceiverResync feed => exact .inl (execFeedReceiverResync_identKept feed s t h)
  | frameMarker number => exact .inl (execFrameMarker_identKept number s t h)
  | slotTick ltag => exact .inl (execSlotTick_identKept ltag s t h)
  | frameWatchExpiry => exact .inl (execFrameWatchExpiry_identKept s t h)
  | pageOpenDone b => exact .inl (execPageOpenDone_identKept b s t h)
  | logWriterStep => exact .inl (execLogWriterStep_identKept s t h)
  | drain => exact .inl (s.takeRequest_identKept applyDrain_ident _ _ t h)
  | stopRun b => exact .inl (s.takeRequest_identKept applyStopRun_ident _ _ t h)
  | enterQuiet b => exact .inl (s.takeRequest_identKept applyEnterQuiet_ident _ _ t h)
  | softReset b => exact .inl (s.takeRequest_identKept applySoftReset_ident _ _ t h)
  | commit b => exact .inl (s.takeRequest_identKept applyCommit_ident _ _ t h)
  | registerWrite b | linkStatusClear b | feedStatusClear b | channelRecordWrite b | supersedeClear b
  | activeTableWrite b | stagedTableWrite b | frameWatchWrite b | storeCfgWrite b | storeWrite b
  | logLossClear b | eventRetire b | clearLost b | alertEnableWrite b =>
    exact .inl (s.takeRequest_identKept applyWrite_ident _ _ t h)
  | read | storeRead => exact .inl (s.takeRequest_identKept (apply := applyRead) (fun _ _ => rfl) _ _ t h)
  | unusedCommand | unknownOrder b =>
    exact .inl (s.takeRequest_identKept (apply := applyNothing) (fun _ _ => rfl) _ _ t h)
  | startRun b => exact .inl (s.takeRequest_identKept (apply := applyStartRun) (fun _ _ => rfl) _ _ t h)
  | runSelftest b => exact .inl (s.takeRequest_identKept (apply := applyRunSelftest) (fun _ _ => rfl) _ _ t h)
  | discardStaged b =>
    exact .inl (s.takeRequest_identKept (apply := applyDiscardStaged) (fun _ _ => rfl) _ _ t h)
  | clearMute b => exact .inl (s.takeRequest_identKept (apply := applyClearMute) (fun _ _ => rfl) _ _ t h)
  | logReset b => exact .inl (s.takeRequest_identKept (apply := applyLogReset) (fun _ _ => rfl) _ _ t h)

/-! ## CHO and the chain-head condition -/

theorem Ident.cho_iff (i : Ident) : i.cho = true ↔ i.chi = true ∧ i.nodeId ≠ 0 := by
  simp [Ident.cho, Ident.named]

theorem Ident.chainHead_iff (i : Ident) : i.chainHead = true ↔ i.chi = true ∧ i.nodeId = 0 := by
  simp [Ident.chainHead, Ident.named]

/-- An unnamed node deasserts CHO (R31). -/
theorem Ident.cho_of_unnamed {i : Ident} (h : i.nodeId = 0) : i.cho = false := by
  simp [Ident.cho, Ident.named, h]

/-- Between two named nodes of one CHI level CHO does not differ (R31). -/
theorem Ident.cho_eq_of_named {i j : Ident} (hchi : i.chi = j.chi) (hi : i.nodeId ≠ 0) (hj : j.nodeId ≠ 0) :
    i.cho = j.cho := by
  rw [Bool.eq_iff_iff, i.cho_iff, j.cho_iff, hchi]
  exact and_congr_right fun _ => iff_of_true hi hj

/-- Settles O40: CHO is read off the CHI level and NODE_ID, and every command keeps both but for those that
`exec_ident_cases` lists. -/
theorem choFollowsChiAndName : Obligations.ChoFollowsChiAndName := by
  refine ⟨fun _ _ => rfl, fun i => ⟨i.cho_iff, i.chainHead_iff⟩,
    fun s modes held => Ident.cho_of_unnamed (modes.unnamed held), fun c s t h moved => ?_⟩
  rcases exec_ident_cases h with kept | chi | ⟨b, rfl, hchi, hid⟩ | reset
  · exact absurd (congrArg Ident.cho kept) moved
  · exact .inl chi
  · have unnamed : s.ident.nodeId = 0 := by
      by_contra named
      exact moved (Ident.cho_eq_of_named hchi hid named)
    exact .inr (.inl ⟨b, rfl, unnamed, hid⟩)
  · exact .inr (.inr ⟨congrArg Ident.nodeId reset.ident, reset.mode, reset.cause⟩)

end Sys2Proof.Machine
end

section
/-! SUPPORT. Beacon runs (R50, R54 to R56): what an instant leaves of the beacon counter, of the units of a soft reset's
step and of LISTEN; the unit that ends a short run; the 64th BEACON of a run. -/

namespace Sys2Proof.Machine

open Sys2Proof (LinkUnit)

/-! ## What a judged request keeps -/

/-- `t` has the beacon counter and the controller of `s`. -/
structure State.RunKept (s t : State) : Prop where
  beacons : t.link.beacons = s.link.beacons
  ctl : t.ctl = s.ctl

theorem applyNoBlock_runKept (r : Request) (s : State) : s.RunKept (applyNoBlock r s) := by
  unfold applyNoBlock applyDrain
  split_ifs <;> exact ⟨rfl, rfl⟩

@[simp] theorem State.remember_beacons (s : State) (r : Request) :
    (s.remember r).link.beacons = s.link.beacons := by
  unfold State.remember; split <;> rfl

section
variable {s : State} {apply : State → State} {r : Request}

theorem State.settle_runKept (h : ∀ u : State, u.RunKept (apply u)) (v : Verdict) :
    s.RunKept (s.settle apply r v) := by
  rcases s.settle_cases apply r v with ⟨-, e⟩ | ⟨-, e⟩ | ⟨-, e⟩ | ⟨-, e⟩ | ⟨-, e⟩ <;>
    exact ⟨by simp [e, (h _).beacons], by simp [e, (h _).ctl]⟩

theorem State.settleBroadcast_runKept (h : ∀ u : State, u.RunKept (apply u)) :
    s.RunKept (s.settleBroadcast apply r) := by
  unfold State.settleBroadcast
  split_ifs
  · exact ⟨rfl, rfl⟩
  · exact ⟨rfl, rfl⟩
  · exact ⟨rfl, rfl⟩
  · exact ⟨rfl, rfl⟩
  · split <;> exact ⟨by simp [(h _).beacons], by simp [(h _).ctl]⟩

/-- A judged request keeps the beacon counter and the controller when its command does. -/
theorem State.judge_runKept (h : ∀ u : State, u.RunKept (apply u)) : s.RunKept (s.judge apply r) := by
  unfold State.judge State.judgeAddressed
  split_ifs
  · have kept := State.settleBroadcast_runKept (s := s.withRx .listen) (r := r) h
    exact ⟨kept.beacons, kept.ctl⟩
  · have kept := State.settle_runKept (s := s) (r := r) h (s.verdict r)
    exact ⟨kept.beacons, kept.ctl⟩

end

theorem State.judgeWaiting_runKept (s : State) : s.RunKept s.judgeWaiting := by
  rcases s.judgeWaiting_cases with ⟨h, k, -, -, -, e⟩ | e <;> rw [e]
  · exact State.judge_runKept (applyNoBlock_runKept _)
  · exact ⟨rfl, rfl⟩

/-- In LISTEN no request waits for its verdict (R3). -/
theorem State.judgeWaiting_of_listen {s : State} (h : s.link.rx = .listen) : s.judgeWaiting = s := by
  simp [State.judgeWaiting, h]

/-! ## What the end of a self-test phase keeps -/

/-- A word that failed S1 touches LINK_CFG at most of the link interface, and nothing of the controller (R152). -/
theorem State.hold_link_ctl (s : State) (f : FailedWord) :
    (s.hold f).link.beacons = s.link.beacons ∧ (s.hold f).link.rx = s.link.rx ∧ (s.hold f).ctl = s.ctl := by
  unfold State.hold
  dsimp only
  repeat' split
  all_goals exact ⟨rfl, rfl, rfl⟩

theorem State.foldl_hold_link_ctl (s : State) (bad : List FailedWord) :
    (bad.foldl State.hold s).link.beacons = s.link.beacons ∧ (bad.foldl State.hold s).link.rx = s.link.rx ∧
      (bad.foldl State.hold s).ctl = s.ctl := by
  induction bad generalizing s with
  | nil => exact ⟨rfl, rfl, rfl⟩
  | cons f fs ih =>
    obtain ⟨beacons, rx, ctl⟩ := ih (s.hold f)
    obtain ⟨beacons', rx', ctl'⟩ := s.hold_link_ctl f
    exact ⟨beacons.trans beacons', rx.trans rx', ctl.trans ctl'⟩

/-- A completed test moves the mode, but no phase ends a soft reset's step (R158, R163). -/
theorem State.phaseEffect_link_softStep (s : State) (p : Phase) (bad : List FailedWord) :
    (s.phaseEffect p bad).link.beacons = s.link.beacons ∧ (s.phaseEffect p bad).link.rx = s.link.rx ∧
      (s.phaseEffect p bad).ctl.softStep = s.ctl.softStep := by
  cases p with
  | s1 =>
    obtain ⟨beacons, rx, ctl⟩ := s.foldl_hold_link_ctl bad
    exact ⟨beacons, rx, congrArg Control.softStep ctl⟩
  | _ => exact ⟨rfl, rfl, rfl⟩

theorem State.endPhaseIfDone_link_softStep (s : State) (failed : List FailedWord) :
    (s.endPhaseIfDone failed).link.beacons = s.link.beacons ∧ (s.endPhaseIfDone failed).link.rx = s.link.rx ∧
      (s.endPhaseIfDone failed).ctl.softStep = s.ctl.softStep := by
  rcases s.endPhaseIfDone_cases failed with ⟨-, -, e⟩ | ⟨-, e⟩ <;> rw [e]
  · exact State.phaseEffect_link_softStep ..
  · exact ⟨rfl, rfl, rfl⟩

/-! ## Instants -/

theorem State.takeOwn_all_beacons_softStep (s : State) :
    (s.takeOwn 90).link.beacons = s.link.beacons ∧ (s.takeOwn 90).ctl.softStep = s.ctl.softStep := by
  rw [State.takeOwn_all]
  obtain ⟨beacons, -, softStep⟩ := State.endPhaseIfDone_link_softStep
    (((s.writerStep.judgeWaiting.completeOpen .bank0).completeOpen .bank1).expireWatch) []
  have judged := s.writerStep.judgeWaiting_runKept
  exact ⟨by simp [beacons, judged.beacons], by simp [softStep, judged.ctl]⟩

theorem State.takeOwn_all_of_listen {s : State} (h : s.link.rx = .listen) : (s.takeOwn 90).link.rx = .listen := by
  rw [State.takeOwn_all, State.judgeWaiting_of_listen (by simpa using h)]
  obtain ⟨-, rx, -⟩ := State.endPhaseIfDone_link_softStep
    (((s.writerStep.completeOpen .bank0).completeOpen .bank1).expireWatch) []
  simpa [rx] using h

@[simp] theorem State.close_beacons (s : State) : s.close.link.beacons = s.link.beacons := by
  rcases s.close_cases with ⟨-, e⟩ | ⟨m, -, e⟩ <;> rw [e]
  exact s.takeOwn_all_beacons_softStep.1

@[simp] theorem State.close_softStep (s : State) : s.close.ctl.softStep = s.ctl.softStep := by
  rcases s.close_cases with ⟨-, e⟩ | ⟨m, -, e⟩ <;> rw [e]
  exact s.takeOwn_all_beacons_softStep.2

theorem State.close_of_listen {s : State} (h : s.link.rx = .listen) : s.close.link.rx = .listen := by
  rcases s.close_cases with ⟨-, e⟩ | ⟨m, -, e⟩ <;> rw [e]
  · exact h
  · exact State.takeOwn_all_of_listen h

@[simp] theorem State.openUnit_beacons (s : State) (p : Nat) : (s.openUnit p).link.beacons = s.link.beacons := by
  rcases s.openUnit_cases p with ⟨m, -, -, e⟩ | ⟨-, e⟩ <;> simp [e]

theorem State.openUnit_of_listen {s : State} (h : s.link.rx = .listen) (p : Nat) :
    (s.openUnit p).link.rx = .listen := by
  rcases s.openUnit_cases p with ⟨m, -, -, e⟩ | ⟨-, e⟩
  · simpa [e] using h
  · simpa [e] using State.close_of_listen h

/-- A unit takes at most one off the units that a soft reset's step still has to pass (R163). -/
theorem State.endUnit_softStep_cases (s : State) (m : Moment) :
    (s.endUnit m).ctl.softStep = s.ctl.softStep.map (· - 1) ∨ (s.endUnit m).ctl.softStep = s.ctl.softStep := by
  simp only [State.endUnit_ctl, State.countUnit_ctl, Control.countUnit]
  split
  · exact .inl rfl
  · exact .inr rfl

theorem State.openUnit_softStep_cases (s : State) (p : Nat) :
    (s.openUnit p).ctl.softStep = s.ctl.softStep.map (· - 1) ∨ (s.openUnit p).ctl.softStep = s.ctl.softStep := by
  rcases s.openUnit_cases p with ⟨m, -, -, e⟩ | ⟨-, e⟩ <;> rw [e]
  · exact s.endUnit_softStep_cases m
  · simpa using s.close.endUnit_softStep_cases (Moment.fresh 10)

/-- A soft reset's step with two units or more to pass does not end with the next one (R163). -/
theorem State.openUnit_softStep_ne_zero {s : State} (h : ∀ n, s.ctl.softStep = some n → 2 ≤ n) (p : Nat) :
    (s.openUnit p).ctl.softStep ≠ some 0 := by
  cases hs : s.ctl.softStep with
  | none => rcases s.openUnit_softStep_cases p with e | e <;> simp [e, hs]
  | some n =>
    have two := h n hs
    rcases s.openUnit_softStep_cases p with e | e <;> simp [e, hs] <;> omega

/-! ## The unit that ends a short run -/

/-- The node when a run of fewer than 64 units has ended, before it is judged: the counter is 0 (R54). -/
def State.runEnded (s : State) : State := { s with link := { s.link with beacons := 0 } }.atPlace 20

/-- A run of 4 to 7 units wakes a node in QUIET (R50). -/
theorem State.endRun_of_wake {s : State} (quiet : s.ctl.mode = .quiet) (lo : 4 ≤ s.link.beacons.toNat)
    (hi : s.link.beacons.toNat ≤ 7) :
    s.endRun = { s.runEnded with ctl := { s.ctl with mode := .setup } } :=
  if_pos ⟨quiet, lo, hi⟩

/-- A run of 8 units or more is stray in SETUP and RUN (R56). -/
theorem State.endRun_of_stray {s : State} (mode : s.ctl.mode = .setup ∨ s.ctl.mode = .run)
    (lo : 8 ≤ s.link.beacons.toNat) :
    s.endRun = s.runEnded.raise .beaconStray (octets2 (BitVec.ofNat 8 s.ctl.mode.code) s.link.beacons) := by
  have awake : ¬(s.ctl.mode = .quiet ∧ 4 ≤ s.link.beacons.toNat ∧ s.link.beacons.toNat ≤ 7) := by omega
  exact (if_neg awake).trans (if_pos ⟨mode, lo⟩)

/-- Every other run is ignored (R56). -/
theorem State.endRun_of_ignored {s : State}
    (noWake : s.ctl.mode = .quiet → s.link.beacons.toNat < 4 ∨ 7 < s.link.beacons.toNat)
    (noStray : s.ctl.mode = .setup ∨ s.ctl.mode = .run → s.link.beacons.toNat < 8) :
    s.endRun = s.runEnded := by
  have wake : ¬(s.ctl.mode = .quiet ∧ 4 ≤ s.link.beacons.toNat ∧ s.link.beacons.toNat ≤ 7) :=
    fun ⟨quiet, _, _⟩ => by have := noWake quiet; omega
  have stray : ¬((s.ctl.mode = .setup ∨ s.ctl.mode = .run) ∧ 8 ≤ s.link.beacons.toNat) :=
    fun ⟨mode, _⟩ => by have := noStray mode; omega
  exact (if_neg wake).trans (if_neg stray)

/-- DETAIL of BEACON_STRAY: STATE, then the length of the run (R56). -/
theorem Mode.strayDetail {m : Mode} (h : m = .setup ∨ m = .run) (n : BitVec 8) :
    octets2 (BitVec.ofNat 8 m.code) n = (if m = .setup then 2#8 else 3#8) ++ n := by
  rcases h with rfl | rfl <;> rfl

/-- A unit that is not a BEACON, received in a node whose early steps have been taken: a START begins a request where
requests are framed (R3, R15). -/
def State.framing (s : State) (u : LinkUnit) : State := if u = .start then s.beginRequest else s

theorem State.framing_of_frames {s : State} (h : s.ctl.mode.frames = true) (u : LinkUnit) :
    s.framing u = if u = .start then s.withRx (.header 0) else s := by
  simp [State.framing, State.beginRequest, h]

theorem State.framing_of_not_frames {s : State} (h : s.ctl.mode.frames = false) (u : LinkUnit) :
    s.framing u = s := by
  simp [State.framing, State.beginRequest, h]

/-- In LISTEN no unit ends a reply or moves a request on (R3, R13). -/
theorem State.replyUnit_of_listen {s : State} (h : s.link.rx = .listen) (u : LinkUnit) : s.replyUnit u = s := by
  have noReply : s.link.rx.endedBy u = none := by rw [h]; cases u <;> rfl
  have still : s.withRx s.link.rx.next = s := by rw [h]; exact congrArg s.withRx h.symm
  simp [State.replyUnit, noReply, still]

/-- In LISTEN a unit that has acted before step 7 can only begin a request there (R3). -/
theorem State.linkStep_of_listen {s : State} (h : s.link.rx = .listen) (u : LinkUnit) {p : Nat} (hp : p ≠ 70) :
    s.linkStep u p = s.framing u := by
  have uncut : s.link.rx.cutBy u = false := by rw [h]; cases u <;> rfl
  simp [State.linkStep, State.framing, uncut, hp]

theorem State.endRun_rx (s : State) : s.endRun.link.rx = s.link.rx := by
  rcases s.endRun_cases with ⟨-, -, -, e⟩ | ⟨-, -, e⟩ | e <;> rw [e] <;> rfl

section
variable {u : LinkUnit} {s : State}

/-- The unit that ends a short run acts first at step 2 (R60). -/
theorem State.unitPlace_of_shortRun (hu : u ≠ .beacon) (run : s.link.beacons ≠ 0) (short : s.link.beacons.toNat ≤ 63)
    (step : ∀ n, s.ctl.softStep = some n → 2 ≤ n) : s.unitPlace u = 20 := by
  have noCause : ¬((u ≠ .beacon ∧ 64 ≤ s.link.beacons.toNat) ∨ s.ctl.softStep.any (· ≤ 1)) := by
    rintro (⟨-, long⟩ | ends)
    · omega
    · obtain ⟨n, hn, one⟩ := (Option.any_eq_true _ _).1 ends
      exact absurd (step n hn) (by simpa using one)
  rw [State.unitPlace, if_neg (fun h => hu h.1), if_neg noCause, if_pos ⟨hu, run⟩]

/-- At steps 1 and 2 the unit only ends the run, when no reset cause ends with it (R60). -/
theorem State.earlySteps_of_shortRun (hu : u ≠ .beacon) (listen : s.link.rx = .listen) (run : s.link.beacons ≠ 0)
    (short : s.link.beacons.toNat ≤ 63) (step : s.ctl.softStep ≠ some 0) (mid : BitVec 4) :
    s.earlySteps u mid = s.endRun := by
  have noCause : s.endCauses u mid = s := by
    rcases s.endCauses_cases u mid with ⟨⟨-, long⟩ | ended, -⟩ | ⟨-, -, e⟩
    · omega
    · exact absurd ended step
    · exact e
  simp only [State.earlySteps, State.replyUnit_of_listen listen, if_neg hu, noCause]
  exact if_pos ⟨hu, run⟩

/-- The unit that ends a short run in LISTEN: the run is judged, then the unit is received in the state that it left (R50,
R54, R56). -/
theorem State.receive_of_shortRun (hu : u ≠ .beacon) (listen : s.link.rx = .listen) (run : s.link.beacons ≠ 0)
    (short : s.link.beacons.toNat ≤ 63) (step : ∀ n, s.ctl.softStep = some n → 2 ≤ n) (mid : BitVec 4) :
    s.receive u mid = (s.openUnit 20).endRun.framing u := by
  have opened := State.openUnit_of_listen listen 20
  rw [State.receive, State.unitPlace_of_shortRun hu run short step, State.unit,
    State.earlySteps_of_shortRun hu opened (by simpa using run) (by simpa using short)
      (State.openUnit_softStep_ne_zero step 20),
    State.linkStep_of_listen (by rw [State.endRun_rx, opened]) u (by decide)]

/-- BEACON_RUN_END stands for a unit that ends a run (R54). -/
theorem exec_beaconRunEnd (hu : u ≠ .beacon) (run : s.link.beacons ≠ 0) (mid : BitVec 4) :
    exec (.beaconRunEnd u mid) s = .next (s.receive u mid) :=
  if_pos ⟨run, hu⟩

end

/-! ## The 64th BEACON of a run -/

theorem State.endReply_beacons (s : State) (r : Reply) : (s.endReply r).link.beacons = s.link.beacons := by
  rcases s.endReply_cases r with ⟨-, e⟩ | ⟨-, e⟩ | ⟨-, e⟩ <;> rw [e] <;> rfl

/-- A reply that ends, in whatever follows it, leaves the beacon counter (R54). -/
theorem State.replyUnit_beacons (s : State) (u : LinkUnit) : (s.replyUnit u).link.beacons = s.link.beacons := by
  unfold State.replyUnit
  split <;> split_ifs <;> simp [State.endReply_beacons]

/-- The 64th BEACON of a run is a link reset, from whatever receive state (R55). -/
theorem State.receive_lastOfReset {s : State} (h : s.link.beacons = 63) (mid : BitVec 4) :
    (s.receive .beacon mid).ctl.mode = .reset ∧ (s.receive .beacon mid).ctl.resetCause = .link := by
  obtain ⟨v, hv⟩ : ∃ v, (s.openUnit (s.unitPlace .beacon)).replyUnit .beacon = v := ⟨_, rfl⟩
  have h63 : v.link.beacons = 63 := by rw [← hv, State.replyUnit_beacons, State.openUnit_beacons, h]
  obtain ⟨-, e⟩ | ⟨ne, -⟩ := v.countBeacon_cases
  · have run : 64 ≤ v.countBeacon.link.beacons.toNat := by
      rw [e]; simp [Link.reset, h63, satInc_eight]
    obtain ⟨mode, cause, rx⟩ := State.endCauses_beacon_of_run run mid
    rw [State.receive, State.unit, State.earlySteps_beacon, hv,
      State.linkStep_beacon_of_listen (by rw [rx, e]; rfl), mode, cause, e]
    exact ⟨rfl, rfl⟩
  · exact absurd h63 ne

/-! ## The statement -/

/-- Settles O16: the unit that ends a short run is received as `receive_of_shortRun` says, and `endRun` judges the run by
its length and the mode. -/
theorem beaconRunEndJudged : Obligations.BeaconRunEndJudged := by
  refine ⟨fun s h => ⟨_, rfl, State.receive_lastOfReset h _⟩, ?_⟩
  intro u mid s hu run listen v n r framed step
  have length : v.link.beacons = s.link.beacons := s.openUnit_beacons 20
  have received (short : n ≤ 63) : exec (.beaconRunEnd u mid) s = .next (v.endRun.framing u) := by
    rw [exec_beaconRunEnd hu run, State.receive_of_shortRun hu listen run short step]
  have framesHere {x : State} (h : x.ctl.mode.frames = true) : x.framing u = framed x := State.framing_of_frames h u
  have ignored (noWake : v.ctl.mode = .quiet → n < 4 ∨ 7 < n)
      (noStray : v.ctl.mode = .setup ∨ v.ctl.mode = .run → n < 8) : v.endRun = r :=
    State.endRun_of_ignored (length ▸ noWake) (length ▸ noStray)
  refine ⟨fun quiet lo hi => ?wake, fun quiet out => ?quietIgnored, fun mode hi => ?awakeIgnored,
    fun mode lo hi => ?stray, fun test hi => ?test, fun reset hi => ?reset⟩
  case wake =>
    rw [received (by omega), State.endRun_of_wake quiet (by rwa [length]) (by rwa [length]), framesHere rfl]
    rfl
  case quietIgnored =>
    rw [received (by omega), ignored (fun _ => by omega) (by simp [quiet])]
    exact congrArg _ (State.framing_of_not_frames (by simp [r, quiet, Mode.frames]) u)
  case awakeIgnored =>
    rw [received (by omega), ignored (by rcases mode with m | m <;> simp [m]) (fun _ => by omega), framesHere]
    rcases mode with m | m <;> simp [r, m, Mode.frames]
  case stray =>
    have frames : v.ctl.mode.frames = true := by rcases mode with m | m <;> rw [m] <;> rfl
    rw [received hi, State.endRun_of_stray mode (by rwa [length]), framesHere (by exact frames),
      Mode.strayDetail mode, length]
    rfl
  case test =>
    rw [received hi, ignored (by simp [test]) (by simp [test]), framesHere (by simp [r, test, Mode.frames])]
  case reset =>
    rw [received hi, ignored (by simp [reset]) (by simp [reset])]
    exact congrArg _ (State.framing_of_not_frames (by simp [r, reset, Mode.frames]) u)

end Sys2Proof.Machine
end

section
/-! SUPPORT. Validation of a schedule table (R82, R83): which entry fails and why, and how validation ends at the first
entry that does not let it go on. -/

namespace Sys2Proof.Machine

open Sys2Proof (Word)

/-! ## One entry -/

theorem Capture.entryFailure_eq_badChannel_iff (c : Capture) (e : Word) :
    c.entryFailure e = some .badChannel ↔ entryDrive e = true ∧ 34 ≤ entryChannel e := by
  unfold Capture.entryFailure
  split_ifs <;> simp_all

theorem Capture.entryFailure_eq_channelDisabled_iff (c : Capture) (e : Word) :
    c.entryFailure e = some .channelDisabled ↔
      entryDrive e = true ∧ entryChannel e ≤ 31 ∧ (c.channel (entryChannel e)).enabled = false := by
  unfold Capture.entryFailure
  split_ifs with still far off
  · simp_all
  · simpa using fun _ (near : entryChannel e ≤ 31) => by omega
  · simp_all; omega
  · have (near : entryChannel e ≤ 31) : (c.channel (entryChannel e)).enabled = true := by
      simpa [Nat.lt_succ_of_le near] using off
    simp_all

/-- Validation knows no third failure of an entry (R82). -/
theorem Capture.entryFailure_cases (c : Capture) (e : Word) :
    c.entryFailure e = none ∨ c.entryFailure e = some .badChannel ∨ c.entryFailure e = some .channelDisabled := by
  unfold Capture.entryFailure
  split_ifs <;> simp

theorem Capture.entryFailure_eq_none {c : Capture} {e : Word}
    (named : ¬(entryDrive e = true ∧ 34 ≤ entryChannel e))
    (enabled : ¬(entryDrive e = true ∧ entryChannel e ≤ 31 ∧ (c.channel (entryChannel e)).enabled = false)) :
    c.entryFailure e = none := by
  rcases c.entryFailure_cases e with h | h | h
  · exact h
  · exact absurd ((c.entryFailure_eq_badChannel_iff e).1 h) named
  · exact absurd ((c.entryFailure_eq_channelDisabled_iff e).1 h) enabled

/-! ## The entry where validation ends -/

theorem Capture.validateFrom_of_failure {c : Capture} {t : Table} {k : Nat} {why : CheckResult}
    (h : c.entryFailure (t.entry k) = some why) (ofActive : Bool) (n : Nat) :
    c.validateFrom t ofActive k (n + 1) = ⟨why, ofActive, k, 0⟩ := by
  simp [Capture.validateFrom, h]

theorem Capture.validateFrom_of_end {c : Capture} {t : Table} {k : Nat}
    (sound : c.entryFailure (t.entry k) = none) (isEnd : entryEnd (t.entry k) = true) (ofActive : Bool) (n : Nat) :
    c.validateFrom t ofActive k (n + 1) = ⟨.valid, ofActive, k, k + 1⟩ := by
  simp [Capture.validateFrom, sound, isEnd]

/-- The table that a validation examines (R83). -/
def State.validatedTable (s : State) (ofActive : Bool) : Table :=
  if ofActive then s.sct.active else s.sct.staged

theorem State.validate_eq (s : State) (ofActive : Bool) :
    s.validate ofActive = s.cap.validateFrom (s.validatedTable ofActive) ofActive 0 256 := rfl

/-- Past `k` entries that let it go on, a validation stands at entry `k` (R82). -/
theorem State.validate_of_passes {s : State} {ofActive : Bool} {k n : Nat} (total : k + n = 256)
    (h : ∀ j < k, s.cap.entryPasses ((s.validatedTable ofActive).entry j)) :
    s.validate ofActive = s.cap.validateFrom (s.validatedTable ofActive) ofActive k n := by
  rw [State.validate_eq, ← total, Capture.validateFrom_skip _ _ _ _ _ (by simpa using h), Nat.zero_add]

/-! ## The statement -/

/-- Settles O47: the entries before `k` let validation go on, so `validate_of_passes` brings it to entry `k`, where the
failure, END or the end of the table decides. -/
theorem validationFindsFirstFailure : Obligations.ValidationFindsFirstFailure := by
  intro s ofActive entry channel driven isEnd badChannel disabled examined
  have atEntry {k n : Nat} (total : k + n = 256) (h : examined k) :
      s.validate ofActive = s.cap.validateFrom (s.validatedTable ofActive) ofActive k n :=
    State.validate_of_passes total fun j hj =>
      have ⟨named, enabled, goesOn⟩ := h j hj
      ⟨Capture.entryFailure_eq_none named enabled, Bool.eq_false_of_not_eq_true goesOn⟩
  have atFailure {k : Nat} (hk : k < 256) (h : examined k) {why : CheckResult}
      (fails : s.cap.entryFailure (entry k) = some why) : s.validate ofActive = ⟨why, ofActive, k, 0⟩ :=
    (atEntry (n := 255 - k + 1) (by omega) h).trans (Capture.validateFrom_of_failure fails _ _)
  refine ⟨fun k hk h bad => ?badChannel, fun k hk h off => ?disabled, fun k hk h named enabled last => ?valid,
    fun h => ?noEnd⟩
  case badChannel => exact atFailure hk h ((s.cap.entryFailure_eq_badChannel_iff _).2 bad)
  case disabled => exact atFailure hk h ((s.cap.entryFailure_eq_channelDisabled_iff _).2 off)
  case valid =>
    exact (atEntry (n := 255 - k + 1) (by omega) h).trans
      (Capture.validateFrom_of_end (Capture.entryFailure_eq_none named enabled) last _ _)
  case noEnd => exact atEntry (n := 0) rfl h

end Sys2Proof.Machine
end

section
/-! SUPPORT. Lane faults (R105 to R107): what a fault does to a node that is not muted, and to a muted one. -/

namespace Sys2Proof.Machine

/-- The fault of a node that is not muted mutes it and raises the event of its kind (R106). -/
theorem State.laneFault_of_unmuted {s : State} (h : s.lane.muted = false) (k : LaneFault) (bit slot : Nat) :
    s.laneFault k bit slot =
      { s with
        lane := { s.lane with muted := true, fault := ⟨k, bit, slot, s.lane.frame⟩, faultCount := 1 } }.raise
        k.event (faultDetail bit slot) := by
  rcases s.laneFault_cases k bit slot with ⟨-, e⟩ | ⟨muted, -⟩
  · exact e
  · exact absurd (h.symm.trans muted) Bool.false_ne_true

/-- The fault of a muted node is counted up to 255, keeps the first record, and ends a pending unmute (R107). -/
theorem State.laneFault_of_muted {s : State} (h : s.lane.muted = true) (k : LaneFault) (bit slot : Nat) :
    s.laneFault k bit slot =
      { s with
        lane := { s.lane with
          faultCount := if s.lane.faultCount = 255 then 255 else s.lane.faultCount + 1
          fault := if s.lane.fault.kind = .none then ⟨k, bit, slot, s.lane.frame⟩ else s.lane.fault
          unmute := false } } := by
  rcases s.laneFault_cases k bit slot with ⟨unmuted, -⟩ | ⟨-, e⟩
  · exact absurd (unmuted.symm.trans h) Bool.false_ne_true
  · rw [e, satInc_eight]

/-- Settles O56: the two cases of `State.laneFault`, with the event of the fault's kind. -/
theorem laneFaultsMute : Obligations.LaneFaultsMute := by
  intro s k bit slot _ record event
  have ofKind : k.event = event := by cases k <;> rfl
  refine ⟨fun unmuted => ?unmuted, fun muted => ?muted⟩
  case unmuted =>
    rw [← ofKind]
    exact State.laneFault_of_unmuted unmuted k bit slot
  case muted => exact State.laneFault_of_muted muted k bit slot

end Sys2Proof.Machine
end

section
/-! SUPPORT. The event unit (R140, R142, R148): the fate of a raised event by the condition that decides it, the attention
condition, and ALERTN at the end of an instant. -/

namespace Sys2Proof.Machine

/-! ## A raised event -/

section
variable {s : State} {k : EventKind}

/-- In RESET, and for a disabled kind, no event is queued or counted (R142). -/
theorem State.raise_of_silent (h : s.ctl.mode = .reset ∨ s.evu.enable.getLsbD k.code = false) (detail : BitVec 16) :
    s.raise k detail = s := by
  rw [State.raise_eq]
  rcases s.evu.push_cases (s.ctl.mode = .reset) k detail s.lane.frame with
    ⟨-, e⟩ | ⟨awake, enabled, -⟩ | ⟨awake, enabled, -⟩
  · rw [e]
  all_goals exact absurd h (by simp [enabled, of_decide_eq_false awake])

/-- An event that finds 16 records is counted in LOST, up to 255 (R142). -/
theorem State.raise_of_full (awake : s.ctl.mode ≠ .reset) (enabled : s.evu.enable.getLsbD k.code = true)
    (full : 16 ≤ s.evu.queue.length) (detail : BitVec 16) :
    s.raise k detail =
      { s with evu := { s.evu with lost := if s.evu.lost = 255 then 255 else s.evu.lost + 1 } } := by
  rw [State.raise_eq]
  rcases s.evu.push_cases (s.ctl.mode = .reset) k detail s.lane.frame with ⟨silent, -⟩ | ⟨-, -, -, e⟩ | ⟨-, -, room, -⟩
  · exact absurd silent (by simp [awake, enabled])
  · rw [e, satInc_eight]
  · omega

/-- An event that finds room becomes the newest record, with the frame number held and the next serial (R140, R142). -/
theorem State.raise_of_room (awake : s.ctl.mode ≠ .reset) (enabled : s.evu.enable.getLsbD k.code = true)
    (room : s.evu.queue.length < 16) (detail : BitVec 16) :
    s.raise k detail =
      { s with
        evu := { s.evu with
          queue := s.evu.queue ++ [{ kind := k, detail := detail, frame := s.lane.frame, serial := s.evu.serial }]
          serial := s.evu.serial + 1 } } := by
  rw [State.raise_eq]
  rcases s.evu.push_cases (s.ctl.mode = .reset) k detail s.lane.frame with ⟨silent, -⟩ | ⟨-, -, full, -⟩ | ⟨-, -, -, e⟩
  · exact absurd silent (by simp [awake, enabled])
  · omega
  · rw [e]

end

/-! ## The attention condition and ALERTN -/

/-- A queued record of an alerting kind, or a lost event while bit 0 of ALERT_ENABLE is set (R148). -/
theorem Events.attention_iff (e : Events) :
    e.attention = true ↔
      (∃ r ∈ e.queue, e.alert.getLsbD r.kind.code = true) ∨ (e.lost ≠ 0 ∧ e.alert.getLsbD 0 = true) := by
  simp [Events.attention]

/-- The attention condition does not look at ALERTN. -/
@[simp] theorem Events.attention_alertn (e : Events) (low : Bool) : { e with alertn := low }.attention = e.attention :=
  rfl

theorem State.alertLow_iff (s : State) :
    s.alertLow = true ↔ s.ctl.mode ≠ .reset ∧ s.evu.attention = true := by
  simp [State.alertLow]

/-- When an instant has ended, ALERTN is low exactly while the condition holds outside RESET (R148, R149). -/
theorem State.close_alertn_iff {s : State} (h : s.now ≠ none) :
    s.close.evu.alertn = true ↔ s.close.ctl.mode ≠ .reset ∧ s.close.evu.attention = true := by
  rcases s.close_cases with ⟨notOpen, -⟩ | ⟨m, -, e⟩
  · exact absurd notOpen h
  · rw [e]
    simpa using (s.takeOwn 90).alertLow_iff

/-! ## The statement -/

/-- Settles O60: a raised event by `raise_of_silent`, `raise_of_full` and `raise_of_room`, the condition and the output by
their own equivalences; the codes are those the model writes out. -/
theorem raisedEventsAreQueuedOrLost : Obligations.RaisedEventsAreQueuedOrLost := by
  refine ⟨rfl, fun s k detail => ⟨?silent, ?full, ?room, s.evu.attention_iff, State.close_alertn_iff⟩⟩
  case silent => exact fun h => State.raise_of_silent h detail
  case full => exact fun awake enabled full => State.raise_of_full awake enabled full detail
  case room => exact fun awake enabled room => State.raise_of_room awake enabled room detail

end Sys2Proof.Machine
end

section
/-! SUPPORT. The request rows (R2, R10, R15): which requests each row stands for, and that a row judges its request with its
own effect. -/

namespace Sys2Proof.Machine

set_option Elab.async false

open Sys2Proof (Instr Block)

/-! ## What belongs to a row -/

theorem regionOf_eq_store_iff (a : Nat) : regionOf a = some .store ↔ 0x4000 ≤ a ∧ a ≤ 0x7FFF := by
  unfold regionOf placedRegister
  split_ifs <;> simp_all <;> omega

theorem Header.toStore_iff (h : Header) : h.toStore = true ↔ h.namesStore := by
  simp [Header.toStore, Header.namesStore, regionOf_eq_store_iff]

theorem Header.covers_iff (h : Header) (lo hi : Nat) : h.covers lo hi = true ↔ h.touches lo hi := by
  have : lo ≤ h.last ↔ lo < h.address.toNat + max 1 h.count.toNat := by
    simp only [Header.last, Header.covered]
    omega
  simp [Header.covers, Header.touches, this]

theorem Header.writes_iff (h : Header) (lo hi : Nat) : h.writes lo hi = true ↔ h.writesTo lo hi := by
  simp [Header.writes, Header.writesTo, ← h.toStore_iff, ← h.covers_iff, and_assoc]

theorem Header.order_eq_some_iff (h : Header) (o : Order) : h.order = some o ↔ h.carries o := by
  simp [Header.order, Header.carries]

theorem Command.unused_iff (c : Command) : c.unused = true ↔ c = .unused5 ∨ c = .unused6 ∨ c = .unused7 := by
  cases c <;> simp [Command.unused]

theorem Header.isRegisterWrite_iff (h : Header) : h.isRegisterWrite = true ↔ rowServes (.registerWrite b) h := by
  simp [Header.isRegisterWrite, Header.coversPlain, Header.coversOther, rowServes, ← h.toStore_iff, ← h.covers_iff,
    or_assoc, and_assoc]

/-- A request row is `takeRequest` for the requests that it serves, with its own effect. -/
theorem exec_eq_takeRequest {c : Instr} {b : Block} (h : rowBlock c = some b) :
    ∃ belongs : Header → Bool, (∀ hd, belongs hd = true ↔ rowServes c hd) ∧
      ∀ s, exec c s = s.takeRequest belongs b (effectOf c) := by
  cases c <;> simp only [rowBlock, Option.some.injEq, reduceCtorEq] at h <;> subst h
  case read => exact ⟨_, fun hd => by simp [Header.isPlainRead, rowServes, ← hd.toStore_iff], fun _ => rfl⟩
  case storeRead => exact ⟨_, fun hd => by simp [Header.isStoreRead, rowServes, ← hd.toStore_iff], fun _ => rfl⟩
  case registerWrite b => exact ⟨_, Header.isRegisterWrite_iff, fun _ => rfl⟩
  case storeWrite b => exact ⟨_, fun hd => by simp [Header.isStoreWrite, rowServes, ← hd.toStore_iff], fun _ => rfl⟩
  case clearLost b => exact ⟨_, fun hd => by simp [Header.isClearLost, rowServes, ← hd.writes_iff], fun _ => rfl⟩
  case setId b => exact ⟨_, fun hd => by simp [rowServes], fun _ => rfl⟩
  case drain => exact ⟨_, fun hd => by simp [rowServes], fun _ => rfl⟩
  case unusedCommand => exact ⟨_, fun hd => hd.command.unused_iff, fun _ => rfl⟩
  case unknownOrder b =>
    exact ⟨_, fun hd => by simp +contextual [rowServes, Header.order], fun _ => rfl⟩
  case linkStatusClear b | feedStatusClear b | channelRecordWrite b | supersedeClear b | activeTableWrite b
      | stagedTableWrite b | frameWatchWrite b | storeCfgWrite b | logLossClear b | eventRetire b
      | alertEnableWrite b =>
    exact ⟨_, fun hd => hd.writes_iff _ _, fun _ => rfl⟩
  case startRun b | stopRun b | enterQuiet b | softReset b | runSelftest b | commit b | discardStaged b | clearMute b
      | logReset b =>
    exact ⟨_, fun hd => decide_eq_true_iff.trans (hd.order_eq_some_iff _), fun _ => rfl⟩

/-- A request without a data block acts on the node as its row does: only a DRAIN does anything (R10, R134). -/
theorem applyNoBlock_eq (r : Request) : applyNoBlock r = if r.hdr.command = .drain then applyDrain r else id := by
  funext s
  by_cases h : r.hdr.command = .drain <;> simp [applyNoBlock, h]

/-! ## The statement -/

/-- Settles O24: a row is `takeRequest` for the requests it serves (`exec_eq_takeRequest`), which judges a request that the
node hears and changes nothing otherwise. -/
theorem requestRowsJudgeTheRequest : Obligations.RequestRowsJudgeTheRequest := by
  refine ⟨fun c s b row => ?row, fun s => ⟨fun h => ?complete, fun n h => ?octets, fun h k hx frames noBlock => ?waiting⟩⟩
  case row =>
    obtain ⟨belongs, serves, e⟩ := exec_eq_takeRequest row
    refine ⟨fun h followed serve frames length => ?_, fun none => ?_⟩
    · exact (e s).trans (State.takeRequest_of_hears (r := ⟨h, b.words, b.check⟩) ⟨followed, frames, length⟩
        ((serves h).2 serve))
    · rcases s.takeRequest_cases belongs b (effectOf c) with e' | ⟨r, ⟨followed, frames, length⟩, belong, rfl, -⟩
      · exact (e s).trans e'
      · exact absurd length (none r.hdr followed ((serves _).1 belong) frames)
  case complete => unfold State.atPoint; rw [h]
  case octets => unfold State.atPoint; rw [h]; rfl
  case waiting =>
    rw [← applyNoBlock_eq ⟨h, [], 0⟩]
    simp [State.judgeWaiting, hx, frames, noBlock]

end Sys2Proof.Machine
end

section
/-! SUPPORT. What a step is made of: the acts of the node, each one operation of the model with what holds when it is taken,
and the proof that every command, and the node left alone, only takes such acts. An invariant of the node is then shown act
by act. -/

namespace Sys2Proof.Machine

set_option Elab.async false

open Sys2Proof (Instr LinkUnit Bank Block)

/-! ## The acts -/

/-- One act of the node. -/
inductive State.Act : State → State → Prop where
  /-- The open instant, which is the model's own. -/
  | now (s : State) (now : Option Moment) : Act s { s with now := now }
  /-- ALERTN takes a value at the end of an instant (R148). -/
  | alert (s : State) (low : Bool) : Act s { s with evu := { s.evu with alertn := low } }
  | writerStep (s : State) : Act s s.writerStep
  | completeOpen (s : State) (b : Bank) : Act s (s.completeOpen b)
  | expireWatch (s : State) : Act s s.expireWatch
  | endPhase (s : State) (failed : List FailedWord) : Act s (s.endPhaseIfDone failed)
  /-- A request, with the words its COUNT states, is judged by its row in a state that frames requests (R2, R15). -/
  | judge (s : State) (c : Instr) (r : Request) (frames : s.ctl.mode.frames = true) (serves : rowServes c r.hdr)
      (size : r.words.length = r.hdr.blockWords) : Act s (s.judge (effectOf c r) r)
  | endUnit (s : State) (m : Moment) : Act s (s.endUnit m)
  /-- The receive state moves on (R3, R13). -/
  | advance (s : State) : Act s (s.withRx s.link.rx.next)
  /-- The reply that is owed or being sent ends (R13, R48, R51). -/
  | endReply (s : State) (r : Reply) (n : Nat) (reply : s.link.rx.reply? = some (r, n)) : Act s (s.endReply r)
  /-- A lost clash is counted and raised (R24). -/
  | clash (s : State) (detail : BitVec 16) :
      Act s ({ s with link := { s.link with clashes := satInc s.link.clashes } }.raise .replyClash detail)
  | countBeacon (s : State) : Act s s.countBeacon
  | endCauses (s : State) (u : LinkUnit) (mid : BitVec 4) : Act s (s.endCauses u mid)
  /-- A run of fewer than 64 units ends (R54). -/
  | endRun (s : State) (short : s.link.beacons.toNat < 64) : Act s s.endRun
  | cutShort (s : State) : Act s s.cutShort
  | beginRequest (s : State) : Act s s.beginRequest
  /-- The header being received is judged (R15). -/
  | judgeHeader (s : State) (o : BitVec 64) (k : Nat) (header : s.link.rx = .header k) : Act s (s.judgeHeader o)
  | pinReset (s : State) (power : Bool) : Act s (s.pinReset power)
  | pinRelease (s : State) (mid : BitVec 4) : Act s (s.pinRelease mid)
  | chi (s : State) (level : Bool) : Act s { s with ident := { s.ident with chi := level } }
  | takeMessage (s : State) (feed : BitVec 2) (bits : BitVec 25) : Act s (s.takeMessage feed bits)
  /-- A feed receiver frames again (R63). -/
  | resync (s : State) (f : Nat) : Act s { s with cap := s.cap.setFeed f { s.cap.feed f with rx := .framing } }
  | takeMarker (s : State) (number : BitVec 16) : Act s (s.takeMarker number)
  | takeTick (s : State) (ltag : BitVec 6) : Act s (s.takeTick ltag)

/-- The node comes from `s` to `t` by acts. -/
def State.Acts (s t : State) : Prop := Relation.ReflTransGen State.Act s t

@[refl] theorem State.Acts.refl {s : State} : s.Acts s := Relation.ReflTransGen.refl

theorem State.Acts.trans {s t u : State} (h : s.Acts t) (h' : t.Acts u) : s.Acts u := Relation.ReflTransGen.trans h h'

theorem State.Acts.then {s t u : State} (h : s.Acts t) (act : t.Act u) : s.Acts u := Relation.ReflTransGen.tail h act

theorem State.Act.once {s t : State} (act : s.Act t) : s.Acts t := .then .refl act

/-- What every act keeps, acts keep. -/
theorem State.Acts.keep {P : State → Prop} (kept : ∀ s t : State, s.Act t → P s → P t) {s t : State} (h : s.Acts t)
    (hs : P s) : P t := by
  induction h with
  | refl => exact hs
  | tail _ act ih => exact kept _ _ act ih

section
variable {s : State}

/-- Acts that are only taken when `c` holds. -/
theorem State.Acts.ite {c : Prop} [Decidable c] {t u : State} (ht : c → s.Acts t) (hu : ¬c → s.Acts u) :
    s.Acts (if c then t else u) := by
  split
  · exact ht ‹_›
  · exact hu ‹_›

theorem State.Acts.thenIf {c : Prop} [Decidable c] {t u : State} (h : s.Acts t) (act : c → t.Act u) :
    s.Acts (if c then u else t) :=
  .ite (fun hc => h.then (act hc)) fun _ => h

end

/-! ## Instants -/

/-- A request without a data block has a row (R2). -/
theorem applyNoBlock_eq_effectOf {h : Header} (noBlock : h.command.hasBlock = false) :
    ∃ c, rowServes c h ∧ applyNoBlock ⟨h, [], 0⟩ = effectOf c ⟨h, [], 0⟩ := by
  rw [applyNoBlock_eq]
  by_cases drain : h.command = .drain
  · exact ⟨.drain, drain, if_pos drain⟩
  rw [if_neg drain]
  by_cases unused : h.command.unused = true
  · exact ⟨.unusedCommand, h.command.unused_iff.1 unused, rfl⟩
  have read : h.command = .read := by
    revert noBlock drain unused
    cases h.command <;> simp [Command.hasBlock, Command.unused]
  by_cases store : h.namesStore
  · exact ⟨.storeRead, ⟨read, store⟩, rfl⟩
  · exact ⟨.read, ⟨read, store⟩, rfl⟩

theorem State.judgeWaiting_acts (s : State) : s.Acts s.judgeWaiting := by
  rcases s.judgeWaiting_cases with ⟨h, k, -, frames, noBlock, e⟩ | e <;> rw [e]
  obtain ⟨c, serves, effect⟩ := applyNoBlock_eq_effectOf noBlock
  exact (effect ▸ State.Act.judge s c ⟨h, [], 0⟩ frames serves
    (by simp [Header.blockWords, noBlock])).once

theorem State.takeOwn_acts (s : State) (p : Nat) : s.Acts (s.takeOwn p) := by
  have h1 : s.Acts (if 60 < p then s.writerStep else s) := .thenIf .refl fun _ => .writerStep s
  have h2 := h1.trans (State.Acts.ite (c := 70 < p) (fun _ => State.judgeWaiting_acts _) fun _ => .refl)
  have h3 := h2.thenIf (c := 80 < p) fun _ => .completeOpen _ .bank0
  have h4 := h3.thenIf (c := 81 < p) fun _ => .completeOpen _ .bank1
  have h5 := h4.thenIf (c := 82 < p) fun _ => .expireWatch _
  exact h5.thenIf (c := 83 < p) fun _ => .endPhase _ []

theorem State.close_acts (s : State) : s.Acts s.close := by
  rcases s.close_cases with ⟨-, e⟩ | ⟨m, -, e⟩ <;> rw [e]
  exact ((s.takeOwn_acts 90).then (.alert _ (s.takeOwn 90).alertLow)).then (.now _ none)

theorem State.reach_acts (s : State) (p : Nat) : s.Acts (s.reach p) := by
  rcases s.reach_cases p with ⟨m, -, -, e⟩ | ⟨-, e⟩ <;> rw [e]
  · exact (s.takeOwn_acts p).then (.now _ _)
  · exact s.close_acts.then (.now _ _)

theorem State.openUnit_acts (s : State) (p : Nat) : s.Acts (s.openUnit p) := by
  rcases s.openUnit_cases p with ⟨m, -, -, e⟩ | ⟨-, e⟩ <;> rw [e]
  · exact (State.Act.endUnit s m).once
  · exact s.close_acts.then (.endUnit _ _)

/-! ## A unit -/

theorem RxState.reply?_of_endedBy {rx : RxState} {u : LinkUnit} {r : Reply} (h : rx.endedBy u = some r) :
    ∃ n, rx.reply? = some (r, n) := by
  cases u <;> cases rx <;> simp_all [RxState.endedBy, RxState.endingReply, RxState.reply?]

theorem State.replyUnit_acts (s : State) (u : LinkUnit) : s.Acts (s.replyUnit u) := by
  unfold State.replyUnit
  split
  · rename_i r ended
    obtain ⟨n, reply⟩ := RxState.reply?_of_endedBy ended
    exact .ite (fun _ => .refl) fun _ => (State.Act.endReply s r n reply).once
  · exact .ite (fun _ => .refl) fun _ => (State.Act.advance s).once

/-- After the unit that ends a long run no long run goes on (R55). -/
theorem State.endCauses_short (s : State) {u : LinkUnit} (hu : u ≠ .beacon) (mid : BitVec 4) :
    (s.endCauses u mid).link.beacons.toNat < 64 := by
  rcases s.endCauses_cases u mid with ⟨-, e⟩ | ⟨beacon | short, -, e⟩
  · by_cases long : 64 ≤ s.link.beacons.toNat
    · simp [e, hu, long]
    · simpa [e, long] using Nat.lt_of_not_le long
  · exact absurd beacon hu
  · rwa [e]

theorem State.earlySteps_acts (s : State) (u : LinkUnit) (mid : BitVec 4) : s.Acts (s.earlySteps u mid) := by
  have h1 := s.replyUnit_acts u
  have h2 := h1.thenIf (c := u = .beacon) fun _ => .countBeacon _
  have h3 := h2.then (.endCauses _ u mid)
  exact h3.thenIf fun ⟨hu, _⟩ => .endRun _ (State.endCauses_short _ hu mid)

theorem State.linkStep_acts (s : State) (u : LinkUnit) (p : Nat) : s.Acts (s.linkStep u p) := by
  have cut := (s.reach_acts 70).then (.cutShort _)
  rcases s.linkStep_cases u p with ⟨-, e⟩ | ⟨-, -, -, e⟩ | ⟨-, -, -, e⟩ | ⟨-, -, e⟩ <;> rw [e]
  · exact cut.thenIf fun _ => .beginRequest _
  · exact (s.reach_acts 70).then (.beginRequest _)
  · exact (State.Act.beginRequest s).once

theorem State.unit_acts (s : State) (u : LinkUnit) (mid : BitVec 4) (p : Nat) : s.Acts (s.unit u mid p) :=
  ((s.openUnit_acts p).trans (State.earlySteps_acts _ u mid)).trans (State.linkStep_acts _ u p)

theorem State.receive_acts (s : State) (u : LinkUnit) (mid : BitVec 4) : s.Acts (s.receive u mid) := s.unit_acts ..

theorem State.forUnit_acts (s : State) : s.Acts s.forUnit := .ite (fun _ => .refl) fun _ => s.close_acts

theorem State.passUnit_acts (s : State) (mid : BitVec 4) : s.Acts (s.passUnit mid) := by
  rcases s.passUnit_cases mid with ⟨-, e⟩ | ⟨-, e⟩ <;> rw [e]
  · exact s.forUnit_acts
  · exact s.forUnit_acts.trans (State.receive_acts ..)

theorem State.passWhile_acts (going : State → Bool) (mid : BitVec 4) (n : Nat) (s : State) :
    s.Acts (State.passWhile going mid n s) := by
  induction n generalizing s with
  | zero => exact .refl
  | succ n ih => exact .ite (fun _ => (s.passUnit_acts mid).trans (ih _)) fun _ => .refl

theorem State.passUnits_acts (n : Nat) (s : State) : s.Acts (s.passUnits n) := State.passWhile_acts ..

theorem State.lastOctet_acts (s : State) : s.Acts s.lastOctet := (s.unit_acts ..).trans (State.reach_acts ..)

theorem State.atHeaderEnd_acts (s : State) (k : Nat) : s.Acts (s.atHeaderEnd k) :=
  (State.passUnits_acts _ s).trans (State.lastOctet_acts _)

theorem State.atPoint_acts (s : State) : s.Acts s.atPoint := by
  unfold State.atPoint
  split
  · exact s.reach_acts 70
  · exact (State.passUnits_acts _ s).trans (State.lastOctet_acts _)

end Sys2Proof.Machine
end

section
/-! SUPPORT. The receive state and the operating state through an instant and through units that pass: an instant leaves the
receive state as it is unless a complete request waits to be judged, and while the octets of a request come the node goes on
receiving it. -/

namespace Sys2Proof.Machine

set_option Elab.async false

open Sys2Proof (Instr LinkUnit Bank Block)

/-! ## What a verdict keeps -/

/-- `P` is kept by all that a verdict does to the node, the command of the request apart (R16 to R23). -/
structure State.VerdictKeeps (P : State → Prop) : Prop where
  rx : ∀ (u : State) (rx : RxState), P u → P (u.withRx rx)
  remember : ∀ (u : State) (r : Request), P u → P (u.remember r)
  checkFailed : ∀ (u : State) (h : Header), P u → P (u.dataCheckFailed h)
  validation : ∀ (u : State) (h : Header), P u → P (u.recordValidation h)
  opening : ∀ (u : State) (h : Header), P u → P (u.openNeeded h)
  ignored : ∀ (u : State) (cls : BitVec 8) (info : Nat), P u → P (u.ignoreBroadcast cls info)
  missed : ∀ u : State, P u → P { u with link := { u.link with bcastMissed := satInc u.link.bcastMissed } }

section
variable {P : State → Prop} {apply : State → State} {s : State}

theorem State.settle_keeps (v : State.VerdictKeeps P) (h : ∀ u, P u → P (apply u)) (r : Request) (x : Verdict)
    (hs : P s) : P (s.settle apply r x) := by
  rcases s.settle_cases apply r x with ⟨-, e⟩ | ⟨-, e⟩ | ⟨-, e⟩ | ⟨-, e⟩ | ⟨-, e⟩ <;> rw [e]
  · exact v.remember _ _ (h _ (v.validation _ _ hs))
  · exact v.checkFailed _ _ hs
  · exact v.validation _ _ hs
  · exact v.opening _ _ hs
  · exact hs

theorem State.settleBroadcast_keeps (v : State.VerdictKeeps P) (h : ∀ u, P u → P (apply u)) (r : Request)
    (hs : P s) : P (s.settleBroadcast apply r) := by
  unfold State.settleBroadcast
  split_ifs
  · exact v.checkFailed _ _ hs
  · exact v.missed _ hs
  · exact v.ignored _ _ _ hs
  · exact v.ignored _ _ _ hs
  · split
    · exact h _ (v.validation _ _ hs)
    · exact v.ignored _ _ _ (v.validation _ _ hs)
    · exact v.ignored _ _ _ hs
    · exact v.ignored _ _ _ hs
    · exact hs
    · exact hs

/-- A judged request keeps what its verdict and its command keep. -/
theorem State.judge_keeps (v : State.VerdictKeeps P) (h : ∀ u, P u → P (apply u)) (r : Request) (hs : P s) :
    P (s.judge apply r) := by
  unfold State.judge State.judgeAddressed
  split_ifs
  · exact State.settleBroadcast_keeps v h r (v.rx _ _ hs)
  · exact v.rx _ _ (State.settle_keeps v h r _ hs)

end

/-! ## The receive state through an instant -/

/-- A request without a data block stands at its acceptance point, where the node judges it by itself (R2). -/
def RxState.complete : RxState → Bool
  | .data h _ => !h.command.hasBlock
  | _ => false

section
variable {s : State}

theorem State.judgeWaiting_of_incomplete (h : s.link.rx.complete = false) : s.judgeWaiting = s := by
  unfold State.judgeWaiting
  split
  · rename_i hd k hx
    have block : hd.command.hasBlock = true := by simpa [RxState.complete, hx] using h
    simp [block]
  · rfl

theorem State.endPhaseIfDone_rx (s : State) (failed : List FailedWord) :
    (s.endPhaseIfDone failed).link.rx = s.link.rx :=
  (s.endPhaseIfDone_link_softStep failed).2.1

theorem State.takeOwn_rx (h : s.link.rx.complete = false) (p : Nat) : (s.takeOwn p).link.rx = s.link.rx := by
  generalize hw : (if 60 < p then s.writerStep else s) = w
  have written : w.link.rx = s.link.rx := by rw [← hw]; split <;> simp
  have judged : w.judgeWaiting = w := State.judgeWaiting_of_incomplete (by rw [written, h])
  simp [State.takeOwn, hw, judged, written, apply_ite State.link, apply_ite Link.rx, State.endPhaseIfDone_rx]

theorem State.close_rx (h : s.link.rx.complete = false) : s.close.link.rx = s.link.rx := by
  rcases s.close_cases with ⟨-, e⟩ | ⟨m, -, e⟩ <;> rw [e]
  exact State.takeOwn_rx h 90

theorem State.reach_rx (h : s.link.rx.complete = false) (p : Nat) : (s.reach p).link.rx = s.link.rx := by
  rcases s.reach_cases p with ⟨m, -, -, e⟩ | ⟨-, e⟩ <;> rw [e]
  · exact State.takeOwn_rx h p
  · exact State.close_rx h

theorem State.openUnit_rx (h : s.link.rx.complete = false) (p : Nat) : (s.openUnit p).link.rx = s.link.rx := by
  rcases s.openUnit_cases p with ⟨m, -, -, e⟩ | ⟨-, e⟩ <;> rw [e]
  · rfl
  · exact State.close_rx h

theorem State.forUnit_rx (h : s.link.rx.complete = false) : s.forUnit.link.rx = s.link.rx := by
  rcases s.forUnit_cases with ⟨m, -, -, -, e⟩ | ⟨-, e⟩ <;> rw [e]
  exact State.close_rx h

theorem RxState.incomplete_of_reply {rx : RxState} {p : Reply × Nat} (h : rx.reply? = some p) :
    rx.complete = false := by
  cases rx <;> simp_all [RxState.reply?, RxState.complete]

end

/-! ## The operating state through an instant -/

/-- A completed test brings SETUP; no other end of a phase moves the node (R158). -/
theorem State.endPhaseIfDone_mode_cases (s : State) (failed : List FailedWord) :
    (s.endPhaseIfDone failed).ctl.mode = s.ctl.mode ∨
      (s.ste.phase = .s6 ∧ 256 ≤ s.ste.units ∧ (s.endPhaseIfDone failed).ctl.mode = .setup) := by
  rcases s.endPhaseIfDone_cases failed with ⟨-, done, e⟩ | ⟨-, e⟩ <;> rw [e]
  · unfold State.endPhase
    cases hp : s.ste.phase with
    | s6 => exact .inr ⟨rfl, by simpa [hp, Phase.length] using done, rfl⟩
    | s1 =>
      exact .inl (congrArg Control.mode (State.foldl_hold_link_ctl ..).2.2)
    | _ => exact .inl rfl
  · exact .inl rfl

@[simp] theorem State.judgeWaiting_ctl (s : State) : s.judgeWaiting.ctl = s.ctl := s.judgeWaiting_runKept.ctl

@[simp] theorem State.judgeWaiting_ste (s : State) : s.judgeWaiting.ste = s.ste := by
  have kept : State.VerdictKeeps (fun t => t.ste = s.ste) := by constructor <;> simp
  rcases s.judgeWaiting_cases with ⟨h, k, -, -, -, e⟩ | e <;> rw [e]
  exact State.judge_keeps kept (by simp [applyNoBlock, applyDrain, apply_ite State.ste]) _ rfl

/-- Of the node's own events of an instant only the end of phase S6 moves it (R45). -/
theorem State.takeOwn_mode_cases (s : State) (p : Nat) :
    (s.takeOwn p).ctl.mode = s.ctl.mode ∨
      (s.ste.phase = .s6 ∧ 256 ≤ s.ste.units ∧ (s.takeOwn p).ctl.mode = .setup) := by
  unfold State.takeOwn
  dsimp only
  generalize hw : (if 60 < p then s.writerStep else s) = w
  have w_kept : w.ctl = s.ctl ∧ w.ste = s.ste := by rw [← hw]; split <;> simp
  generalize hj : (if 70 < p then w.judgeWaiting else w) = j
  have j_kept : j.ctl = w.ctl ∧ j.ste = w.ste := by rw [← hj]; split <;> simp
  by_cases h83 : 83 < p
  · have h80 : 80 < p := by omega
    have h81 : 81 < p := by omega
    have h82 : 82 < p := by omega
    rw [if_pos h83, if_pos h82, if_pos h81, if_pos h80]
    have := (((j.completeOpen .bank0).completeOpen .bank1).expireWatch).endPhaseIfDone_mode_cases []
    simpa [j_kept, w_kept] using this
  · left
    simp [h83, apply_ite State.ctl, j_kept, w_kept]

theorem State.takeOwn_frames (s : State) (p : Nat) (h : s.ctl.mode.frames = true) :
    (s.takeOwn p).ctl.mode.frames = true := by
  rcases s.takeOwn_mode_cases p with e | ⟨-, -, e⟩ <;> rw [e]
  · exact h
  · rfl

theorem State.close_frames (s : State) (h : s.ctl.mode.frames = true) : s.close.ctl.mode.frames = true := by
  rcases s.close_cases with ⟨-, e⟩ | ⟨m, -, e⟩ <;> rw [e]
  · exact h
  · exact s.takeOwn_frames 90 h

theorem State.reach_frames (s : State) (p : Nat) (h : s.ctl.mode.frames = true) :
    (s.reach p).ctl.mode.frames = true := by
  rcases s.reach_cases p with ⟨m, -, -, e⟩ | ⟨-, e⟩ <;> rw [e]
  · exact s.takeOwn_frames p h
  · exact s.close_frames h

theorem State.openUnit_frames (s : State) (p : Nat) (h : s.ctl.mode.frames = true) :
    (s.openUnit p).ctl.mode.frames = true := by
  rcases s.openUnit_cases p with ⟨m, -, -, e⟩ | ⟨-, e⟩ <;> rw [e]
  · exact h
  · exact s.close_frames h

/-! ## Octets of a request -/

/-- The request whose octets are being received: its header, or the data block of the header followed (R2). -/
def RxState.request : RxState → Option (Option Header)
  | .header _ => some none
  | .data h _ => if h.command.hasBlock then some (some h) else none
  | _ => none

theorem RxState.inRequest_eq (rx : RxState) : rx.inRequest = rx.request.isSome := by
  cases rx <;> simp [RxState.inRequest, RxState.request]
  split <;> simp_all

theorem RxState.request_next (rx : RxState) : rx.next.request = rx.request := by
  cases rx <;> simp only [RxState.next] <;> (try split_ifs) <;> rfl

theorem RxState.incomplete_of_request {rx : RxState} (h : rx.request.isSome = true) : rx.complete = false := by
  cases rx <;> simp_all [RxState.request, RxState.complete]

/-- The node `t` goes on receiving the request that `s` receives. -/
structure State.GoesOn (s t : State) : Prop where
  request : t.link.rx.request = s.link.rx.request
  frames : s.ctl.mode.frames = true → t.ctl.mode.frames = true

theorem State.GoesOn.trans {s t u : State} (h : s.GoesOn t) (h' : t.GoesOn u) : s.GoesOn u :=
  ⟨h'.request.trans h.request, h'.frames ∘ h.frames⟩

@[simp] theorem State.endCauses_rx (s : State) (u : LinkUnit) (mid : BitVec 4) :
    (s.endCauses u mid).link.rx = s.link.rx := by
  rcases s.endCauses_cases u mid with ⟨-, e⟩ | ⟨-, -, e⟩ <;> simp [e]

theorem State.endCauses_frames (s : State) (u : LinkUnit) (mid : BitVec 4) (h : s.ctl.mode.frames = true) :
    (s.endCauses u mid).ctl.mode.frames = true := by
  rcases s.endCauses_cases u mid with ⟨-, e⟩ | ⟨-, -, e⟩ <;> rw [e]
  · generalize hv : ({ s with link := _, ctl := _ } : State) = v
    have mode : v.ctl.mode = s.ctl.mode := by rw [← hv]
    rcases v.tryLeaveReset_cases mid with ⟨-, -, e⟩ | ⟨-, e⟩
    · simp [e, State.testBegun, Mode.frames]
    · simp [e, mode, h]
  · exact h

theorem State.endRun_frames (s : State) (h : s.ctl.mode.frames = true) : s.endRun.ctl.mode.frames = true := by
  rcases s.endRun_cases with ⟨-, -, -, e⟩ | ⟨-, -, e⟩ | e <;> rw [e]
  · rfl
  · exact h
  · exact h

section
variable {s : State}

theorem State.unit_octet_goesOn (h : s.link.rx.request.isSome = true) (mid : BitVec 4) (p : Nat) :
    s.GoesOn (s.unit .octet mid p) := by
  obtain ⟨v, hv⟩ : ∃ v, s.openUnit p = v := ⟨_, rfl⟩
  have rx : v.link.rx = s.link.rx := hv ▸ State.openUnit_rx (RxState.incomplete_of_request h) p
  have moved : v.replyUnit .octet = v.withRx v.link.rx.next := by
    have noReply : v.link.rx.endedBy .octet = none := by
      rw [rx]; revert h; cases s.link.rx <;> simp [RxState.request, RxState.endedBy, RxState.endingReply]
    simp [State.replyUnit, noReply]
  obtain ⟨c, hc⟩ : ∃ c, (v.withRx v.link.rx.next).endCauses .octet mid = c := ⟨_, rfl⟩
  have caused : s.GoesOn c :=
    ⟨by simp [← hc, rx, RxState.request_next], fun frames => hc ▸ State.endCauses_frames _ _ _
      (hv ▸ s.openUnit_frames p frames)⟩
  have early : s.GoesOn (v.earlySteps .octet mid) := by
    have e : v.earlySteps .octet mid = if c.link.beacons ≠ 0 then c.endRun else c := by
      simp [State.earlySteps, moved, hc]
    rw [e]
    split
    · exact caused.trans ⟨by rw [State.endRun_rx], c.endRun_frames⟩
    · exact caused
  have link : (v.earlySteps .octet mid).linkStep .octet p = v.earlySteps .octet mid := rfl
  rw [State.unit, hv, link]
  exact early

theorem State.forUnit_goesOn (h : s.link.rx.request.isSome = true) : s.GoesOn s.forUnit := by
  refine ⟨by rw [State.forUnit_rx (RxState.incomplete_of_request h)], fun frames => ?_⟩
  rcases s.forUnit_cases with ⟨m, -, -, -, e⟩ | ⟨-, e⟩ <;> rw [e]
  · exact frames
  · exact s.close_frames frames

theorem State.passUnit_goesOn (h : s.link.rx.request.isSome = true) (mid : BitVec 4) :
    s.GoesOn (s.passUnit mid) := by
  have waited := State.forUnit_goesOn h
  rcases s.passUnit_cases mid with ⟨-, e⟩ | ⟨-, e⟩ <;> rw [e]
  · exact waited
  · have inside : s.forUnit.link.rx.request.isSome = true := by rw [waited.request, h]
    have filler : s.forUnit.link.rx.filler = .octet := by simp [RxState.filler, RxState.inRequest_eq, inside]
    rw [filler]
    exact waited.trans (State.unit_octet_goesOn inside _ _)

theorem State.passUnits_goesOn (h : s.link.rx.request.isSome = true) (n : Nat) : s.GoesOn (s.passUnits n) := by
  induction n generalizing s with
  | zero => exact ⟨rfl, id⟩
  | succ n ih =>
    have one := State.passUnit_goesOn h 0
    exact one.trans (ih (by rw [one.request, h]))

theorem State.lastOctet_goesOn (h : s.link.rx.request.isSome = true) : s.GoesOn s.lastOctet := by
  have octet := State.unit_octet_goesOn h 0 70
  have inside : (s.unit .octet 0 70).link.rx.request.isSome = true := by rw [octet.request, h]
  refine octet.trans ⟨?_, State.reach_frames _ 70⟩
  rw [State.lastOctet, State.reach_rx (RxState.incomplete_of_request inside)]

theorem State.atHeaderEnd_goesOn (h : s.link.rx.request.isSome = true) (k : Nat) : s.GoesOn (s.atHeaderEnd k) := by
  have passed := State.passUnits_goesOn h (7 - k)
  exact passed.trans (State.lastOctet_goesOn (by rw [passed.request, h]))

end

/-- The header being received is still received at its end. -/
theorem State.atHeaderEnd_rx {s : State} {k : Nat} (h : s.link.rx = .header k) (j : Nat) :
    ∃ n, (s.atHeaderEnd j).link.rx = .header n := by
  have on := (State.atHeaderEnd_goesOn (s := s) (by rw [h]; rfl) j).request
  rw [h] at on
  revert on
  cases (s.atHeaderEnd j).link.rx <;> simp [RxState.request]

/-- The octets of a data block still to come are there only for a command that has one (R2). -/
theorem RxState.request_of_blockLeft {rx : RxState} {n : Nat} (h : rx.blockLeft = n + 1) :
    rx.request.isSome = true := by
  cases rx with
  | data hd k =>
    have block : hd.command.hasBlock = true := by
      by_contra none
      simp [RxState.blockLeft, Header.blockOctets, none] at h
    simp [RxState.request, block]
  | _ => simp [RxState.blockLeft] at h

/-- At its acceptance point a request finds the node in a state that frames requests (R15). -/
theorem State.atPoint_frames {s : State} (h : s.ctl.mode.frames = true) : s.atPoint.ctl.mode.frames = true := by
  unfold State.atPoint
  split
  · exact s.reach_frames 70 h
  · rename_i n left
    have inside := RxState.request_of_blockLeft left
    have passed := State.passUnits_goesOn inside n
    exact (passed.trans (State.lastOctet_goesOn (by rw [passed.request, inside]))).frames h

/-! ## Every command takes acts -/

/-- The acts that lead where a command leads. -/
def State.LeadsByActs (s : State) (x : Result) : Prop := ∀ t, x = .next t → s.Acts t

theorem State.Acts.next {s t : State} (h : s.Acts t) : s.LeadsByActs (.next t) := by
  rintro _ ⟨⟩
  exact h

theorem State.LeadsByActs.ite {s : State} {c : Prop} [Decidable c] {x y : Result} (hx : c → s.LeadsByActs x)
    (hy : ¬c → s.LeadsByActs y) : s.LeadsByActs (if c then x else y) := by
  split
  · exact hx ‹_›
  · exact hy ‹_›

theorem State.noteBegun_acts {s t : State} (h : s.Acts t) (u : State) : s.Acts (t.noteBegun u) := h.then (.now _ _)

theorem exec_row_acts {c : Instr} {b : Block} (row : rowBlock c = some b) (s : State) : s.LeadsByActs (exec c s) := by
  obtain ⟨belongs, serves, e⟩ := exec_eq_takeRequest row
  rw [e]
  rcases s.takeRequest_cases belongs b (effectOf c) with e | ⟨r, ⟨-, frames, size⟩, belong, -, e⟩ <;> rw [e]
  · exact State.Acts.refl.next
  · exact (s.atPoint_acts.then (.judge _ c r (State.atPoint_frames frames) ((serves _).1 belong) size)).next

theorem execHeaderReceived_acts (o : BitVec 64) (s : State) : s.LeadsByActs (execHeaderReceived o s) := by
  unfold execHeaderReceived
  split
  · rename_i k header
    obtain ⟨n, still⟩ := State.atHeaderEnd_rx header k
    exact ((s.atHeaderEnd_acts k).then (.judgeHeader _ o n still)).next
  · exact State.Acts.refl.next

theorem RxState.reply?_of_sending {rx : RxState} {r : Reply} {n : Nat} {o : Octet} (h : rx.sending = some (r, n, o)) :
    rx.reply? = some (r, n) := by
  cases rx <;> simp_all [RxState.sending, RxState.reply?]

theorem execReplyClash_acts (bit : BitVec 3) (s : State) : s.LeadsByActs (execReplyClash bit s) := by
  unfold execReplyClash
  split
  · rename_i r n o sending
    have reply := RxState.reply?_of_sending sending
    have still : (s.reach r.clashPlace).link.rx.reply? = some (r, n) := by
      rw [State.reach_rx (RxState.incomplete_of_reply reply), reply]
    refine .ite (fun _ => (State.noteBegun_acts ?_ _).next) fun _ => State.Acts.refl.next
    have counted := (s.reach_acts r.clashPlace).thenIf (c := r.after = .nothing) fun _ => .clash _
      (octets2 (Config.serial.extractLsb' 0 8) (BitVec.ofNat 8 (min (n + 1) 255)))
    exact counted.then (.endReply _ r n (by split <;> exact still))
  · exact State.Acts.refl.next

theorem execSoftResetStepDone_acts (mid : BitVec 4) (s : State) : s.LeadsByActs (execSoftResetStepDone mid s) := by
  unfold execSoftResetStepDone
  split
  · exact (State.passWhile_acts ..).next
  · exact State.Acts.refl.next

theorem execPageOpenDone_acts (b : Bank) (s : State) : s.LeadsByActs (execPageOpenDone b s) := by
  unfold execPageOpenDone
  split
  · exact (((State.passWhile_acts ..).trans (State.reach_acts ..)).then (.completeOpen _ b)).next
  · exact State.Acts.refl.next

theorem State.unit_or_nothing_acts (c : Prop) [Decidable c] (s : State) (u : LinkUnit) (mid : BitVec 4) :
    s.LeadsByActs (if c then .next (s.receive u mid) else .next s) :=
  .ite (fun _ => (s.receive_acts u mid).next) fun _ => State.Acts.refl.next

theorem State.units_or_nothing_acts (s : State) (n : Nat) :
    s.LeadsByActs (if n = 0 then .next s else .next (s.passUnits n)) :=
  .ite (fun _ => State.Acts.refl.next) fun _ => (State.passUnits_acts n s).next

/-- Every command takes acts only. -/
theorem exec_acts {c : Instr} {s t : State} (h : exec c s = .next t) : s.Acts t := by
  cases hb : rowBlock c with
  | some b => exact exec_row_acts hb s t h
  | none =>
    revert t
    change s.LeadsByActs (exec c s)
    cases c <;> simp only [rowBlock, reduceCtorEq] at hb
    case startUnit mid => exact (s.receive_acts ..).next
    case beaconUnit => exact (s.receive_acts ..).next
    case beaconRunEnd u mid | framingError u | replyTruncated u => exact State.unit_or_nothing_acts _ s u _
    case headerReceived o => exact execHeaderReceived_acts o s
    case ackTokenSend | readDataSend | replyEnd => exact s.units_or_nothing_acts _
    case replyClash bit => exact execReplyClash_acts bit s
    case pinReset power => exact ((s.reach_acts 11).then (.pinReset _ power)).next
    case pinResetRelease mid => exact (State.noteBegun_acts ((s.reach_acts 12).then (.pinRelease _ mid)) _).next
    case softResetStepDone mid => exact execSoftResetStepDone_acts mid s
    case selftestPhaseEnd failed =>
      exact .ite (fun _ => State.Acts.refl.next) fun _ =>
        (((State.passWhile_acts ..).trans (State.reach_acts ..)).then (.endPhase _ failed)).next
    case chiChange level => exact ((s.reach_acts 0).then (.chi _ level)).next
    case feedMessage feed bits => exact ((s.reach_acts _).then (.takeMessage _ feed bits)).next
    case frameMarker number =>
      exact (((s.reach_acts 30).then (.now _ _)).then (.takeMarker _ number)).next
    case slotTick ltag => exact ((s.reach_acts 50).then (.takeTick _ ltag)).next
    case frameWatchExpiry =>
      exact .ite (fun _ => State.Acts.refl.next) fun _ =>
        (((State.passWhile_acts ..).trans (State.reach_acts ..)).then (.expireWatch _)).next
    case pageOpenDone b => exact execPageOpenDone_acts b s
    case logWriterStep =>
      exact .ite (fun _ => (State.noteBegun_acts ((s.reach_acts 60).then (.writerStep _)) _).next) fun _ =>
        State.Acts.refl.next
    case feedReceiverResync feed =>
      exact .ite (fun _ => ((s.reach_acts _).then (.resync _ feed.toNat)).next) fun _ => (s.reach_acts _).next

theorem State.idle_acts (s : State) : s.Acts s.idle := .ite (fun _ => s.close_acts) fun _ => s.passUnit_acts _

/-- An invariant of the node: what every act keeps, and what does not look at the queue, every step keeps. -/
theorem step_keeps {P : State → Prop} (queue : ∀ (s : State) (rest : List Instr), P s → P { s with pending := rest })
    (kept : ∀ s t : State, s.Act t → P s → P t) {s t : State} (h : step s = .next t) (hs : P s) : P t := by
  unfold step at h
  split at h
  · exact (exec_acts h).keep kept (queue s _ hs)
  · obtain rfl := Host.Outcome.next.inj h
    exact s.idle_acts.keep kept hs

end Sys2Proof.Machine
end

section
/-! SUPPORT. One lemma per block: what the units, the header, the feeds and the lane leave as it is. -/

namespace Sys2Proof.Machine

set_option Elab.async false

open Sys2Proof (LinkUnit)

@[simp] theorem State.judgeHeader_ident (s : State) (o : BitVec 64) :
    (s.judgeHeader o).ident = s.ident := by simp [State.judgeHeader, State.headerFailed, apply_ite State.ident]
@[simp] theorem State.judgeHeader_ctl (s : State) (o : BitVec 64) :
    (s.judgeHeader o).ctl = s.ctl := by simp [State.judgeHeader, State.headerFailed, apply_ite State.ctl]
@[simp] theorem State.judgeHeader_cap (s : State) (o : BitVec 64) :
    (s.judgeHeader o).cap = s.cap := by simp [State.judgeHeader, State.headerFailed, apply_ite State.cap]
@[simp] theorem State.judgeHeader_sct (s : State) (o : BitVec 64) :
    (s.judgeHeader o).sct = s.sct := by simp [State.judgeHeader, State.headerFailed, apply_ite State.sct]
@[simp] theorem State.judgeHeader_lane (s : State) (o : BitVec 64) :
    (s.judgeHeader o).lane = s.lane := by simp [State.judgeHeader, State.headerFailed, apply_ite State.lane]
@[simp] theorem State.judgeHeader_stl (s : State) (o : BitVec 64) :
    (s.judgeHeader o).stl = s.stl := by simp [State.judgeHeader, State.headerFailed, apply_ite State.stl]
@[simp] theorem State.judgeHeader_ste (s : State) (o : BitVec 64) :
    (s.judgeHeader o).ste = s.ste := by simp [State.judgeHeader, State.headerFailed, apply_ite State.ste]
@[simp] theorem State.judgeHeader_user (s : State) (o : BitVec 64) :
    (s.judgeHeader o).user = s.user := by simp [State.judgeHeader, State.headerFailed, apply_ite State.user]

@[simp] theorem State.cutShort_ident (s : State) :
    (s.cutShort).ident = s.ident := by rcases s.cutShort_cases with ⟨r, n, -, e⟩ | ⟨-, e⟩ <;> simp [e]
@[simp] theorem State.cutShort_ctl (s : State) :
    (s.cutShort).ctl = s.ctl := by rcases s.cutShort_cases with ⟨r, n, -, e⟩ | ⟨-, e⟩ <;> simp [e]
@[simp] theorem State.cutShort_cap (s : State) :
    (s.cutShort).cap = s.cap := by rcases s.cutShort_cases with ⟨r, n, -, e⟩ | ⟨-, e⟩ <;> simp [e]
@[simp] theorem State.cutShort_sct (s : State) :
    (s.cutShort).sct = s.sct := by rcases s.cutShort_cases with ⟨r, n, -, e⟩ | ⟨-, e⟩ <;> simp [e]
@[simp] theorem State.cutShort_lane (s : State) :
    (s.cutShort).lane = s.lane := by rcases s.cutShort_cases with ⟨r, n, -, e⟩ | ⟨-, e⟩ <;> simp [e]
@[simp] theorem State.cutShort_stl (s : State) :
    (s.cutShort).stl = s.stl := by rcases s.cutShort_cases with ⟨r, n, -, e⟩ | ⟨-, e⟩ <;> simp [e]
@[simp] theorem State.cutShort_ste (s : State) :
    (s.cutShort).ste = s.ste := by rcases s.cutShort_cases with ⟨r, n, -, e⟩ | ⟨-, e⟩ <;> simp [e]
@[simp] theorem State.cutShort_user (s : State) :
    (s.cutShort).user = s.user := by rcases s.cutShort_cases with ⟨r, n, -, e⟩ | ⟨-, e⟩ <;> simp [e]

@[simp] theorem State.pinRelease_link (s : State) (mid : BitVec 4) :
    (s.pinRelease mid).link = s.link := by simp [State.pinRelease, apply_ite State.link]
@[simp] theorem State.pinRelease_sct (s : State) (mid : BitVec 4) :
    (s.pinRelease mid).sct = s.sct := by simp [State.pinRelease, apply_ite State.sct]
@[simp] theorem State.pinRelease_lane (s : State) (mid : BitVec 4) :
    (s.pinRelease mid).lane = s.lane := by simp [State.pinRelease, apply_ite State.lane]
@[simp] theorem State.pinRelease_stl (s : State) (mid : BitVec 4) :
    (s.pinRelease mid).stl = s.stl := by simp [State.pinRelease, apply_ite State.stl]
@[simp] theorem State.pinRelease_evu (s : State) (mid : BitVec 4) :
    (s.pinRelease mid).evu = s.evu := by simp [State.pinRelease, apply_ite State.evu]
@[simp] theorem State.pinRelease_user (s : State) (mid : BitVec 4) :
    (s.pinRelease mid).user = s.user := by simp [State.pinRelease, apply_ite State.user]

@[simp] theorem State.endCauses_sct (s : State) (u : LinkUnit) (mid : BitVec 4) :
    (s.endCauses u mid).sct = s.sct := by rcases s.endCauses_cases u mid with ⟨-, e⟩ | ⟨-, -, e⟩ <;> simp [e]
@[simp] theorem State.endCauses_lane (s : State) (u : LinkUnit) (mid : BitVec 4) :
    (s.endCauses u mid).lane = s.lane := by rcases s.endCauses_cases u mid with ⟨-, e⟩ | ⟨-, -, e⟩ <;> simp [e]
@[simp] theorem State.endCauses_stl (s : State) (u : LinkUnit) (mid : BitVec 4) :
    (s.endCauses u mid).stl = s.stl := by rcases s.endCauses_cases u mid with ⟨-, e⟩ | ⟨-, -, e⟩ <;> simp [e]
@[simp] theorem State.endCauses_evu (s : State) (u : LinkUnit) (mid : BitVec 4) :
    (s.endCauses u mid).evu = s.evu := by rcases s.endCauses_cases u mid with ⟨-, e⟩ | ⟨-, -, e⟩ <;> simp [e]
@[simp] theorem State.endCauses_user (s : State) (u : LinkUnit) (mid : BitVec 4) :
    (s.endCauses u mid).user = s.user := by rcases s.endCauses_cases u mid with ⟨-, e⟩ | ⟨-, -, e⟩ <;> simp [e]

@[simp] theorem State.takeMessage_link (s : State) (feed : BitVec 2) (bits : BitVec 25) :
    (s.takeMessage feed bits).link = s.link := by simp [State.takeMessage, State.parityFailed, State.unclaimedMessage, State.claimMessage, apply_ite State.link]
@[simp] theorem State.takeMessage_ctl (s : State) (feed : BitVec 2) (bits : BitVec 25) :
    (s.takeMessage feed bits).ctl = s.ctl := by simp [State.takeMessage, State.parityFailed, State.unclaimedMessage, State.claimMessage, apply_ite State.ctl]
@[simp] theorem State.takeMessage_sct (s : State) (feed : BitVec 2) (bits : BitVec 25) :
    (s.takeMessage feed bits).sct = s.sct := by simp [State.takeMessage, State.parityFailed, State.unclaimedMessage, State.claimMessage, apply_ite State.sct]
@[simp] theorem State.takeMessage_lane (s : State) (feed : BitVec 2) (bits : BitVec 25) :
    (s.takeMessage feed bits).lane = s.lane := by simp [State.takeMessage, State.parityFailed, State.unclaimedMessage, State.claimMessage, apply_ite State.lane]
@[simp] theorem State.takeMessage_ste (s : State) (feed : BitVec 2) (bits : BitVec 25) :
    (s.takeMessage feed bits).ste = s.ste := by simp [State.takeMessage, State.parityFailed, State.unclaimedMessage, State.claimMessage, apply_ite State.ste]
@[simp] theorem State.takeMessage_user (s : State) (feed : BitVec 2) (bits : BitVec 25) :
    (s.takeMessage feed bits).user = s.user := by simp [State.takeMessage, State.parityFailed, State.unclaimedMessage, State.claimMessage, apply_ite State.user]

@[simp] theorem State.commitAtMarker_link (s : State) (n : BitVec 16) :
    (s.commitAtMarker n).link = s.link := by unfold State.commitAtMarker; split <;> simp [apply_ite State.link]
@[simp] theorem State.commitAtMarker_ctl (s : State) (n : BitVec 16) :
    (s.commitAtMarker n).ctl = s.ctl := by unfold State.commitAtMarker; split <;> simp [apply_ite State.ctl]
@[simp] theorem State.commitAtMarker_cap (s : State) (n : BitVec 16) :
    (s.commitAtMarker n).cap = s.cap := by unfold State.commitAtMarker; split <;> simp [apply_ite State.cap]
@[simp] theorem State.commitAtMarker_lane (s : State) (n : BitVec 16) :
    (s.commitAtMarker n).lane = s.lane := by unfold State.commitAtMarker; split <;> simp [apply_ite State.lane]
@[simp] theorem State.commitAtMarker_stl (s : State) (n : BitVec 16) :
    (s.commitAtMarker n).stl = s.stl := by unfold State.commitAtMarker; split <;> simp [apply_ite State.stl]
@[simp] theorem State.commitAtMarker_ste (s : State) (n : BitVec 16) :
    (s.commitAtMarker n).ste = s.ste := by unfold State.commitAtMarker; split <;> simp [apply_ite State.ste]
@[simp] theorem State.commitAtMarker_user (s : State) (n : BitVec 16) :
    (s.commitAtMarker n).user = s.user := by unfold State.commitAtMarker; split <;> simp [apply_ite State.user]

@[simp] theorem State.takeMarker_link (s : State) (n : BitVec 16) :
    (s.takeMarker n).link = s.link := by simp [State.takeMarker, State.recordMarker, State.completeness, apply_ite State.link]
@[simp] theorem State.takeMarker_cap (s : State) (n : BitVec 16) :
    (s.takeMarker n).cap = s.cap := by simp [State.takeMarker, State.recordMarker, State.completeness, apply_ite State.cap]
@[simp] theorem State.takeMarker_stl (s : State) (n : BitVec 16) :
    (s.takeMarker n).stl = s.stl := by simp [State.takeMarker, State.recordMarker, State.completeness, apply_ite State.stl]
@[simp] theorem State.takeMarker_ste (s : State) (n : BitVec 16) :
    (s.takeMarker n).ste = s.ste := by simp [State.takeMarker, State.recordMarker, State.completeness, apply_ite State.ste]
@[simp] theorem State.takeMarker_user (s : State) (n : BitVec 16) :
    (s.takeMarker n).user = s.user := by simp [State.takeMarker, State.recordMarker, State.completeness, apply_ite State.user]

@[simp] theorem State.driveSlot_link (s : State) (c : Nat) (ltag : BitVec 6) :
    (s.driveSlot c ltag).link = s.link := by unfold State.driveSlot State.loseSlot State.placeWord; split <;> simp
@[simp] theorem State.driveSlot_ctl (s : State) (c : Nat) (ltag : BitVec 6) :
    (s.driveSlot c ltag).ctl = s.ctl := by unfold State.driveSlot State.loseSlot State.placeWord; split <;> simp
@[simp] theorem State.driveSlot_sct (s : State) (c : Nat) (ltag : BitVec 6) :
    (s.driveSlot c ltag).sct = s.sct := by unfold State.driveSlot State.loseSlot State.placeWord; split <;> simp
@[simp] theorem State.driveSlot_stl (s : State) (c : Nat) (ltag : BitVec 6) :
    (s.driveSlot c ltag).stl = s.stl := by unfold State.driveSlot State.loseSlot State.placeWord; split <;> simp
@[simp] theorem State.driveSlot_ste (s : State) (c : Nat) (ltag : BitVec 6) :
    (s.driveSlot c ltag).ste = s.ste := by unfold State.driveSlot State.loseSlot State.placeWord; split <;> simp
@[simp] theorem State.driveSlot_user (s : State) (c : Nat) (ltag : BitVec 6) :
    (s.driveSlot c ltag).user = s.user := by unfold State.driveSlot State.loseSlot State.placeWord; split <;> simp

@[simp] theorem State.takeTick_link (s : State) (ltag : BitVec 6) :
    (s.takeTick ltag).link = s.link := by
  have release : s.releaseSlot.link = s.link := rfl
  unfold State.takeTick
  repeat' split
  all_goals simp [release, State.walkEntry, State.extraTick, apply_ite State.link]
@[simp] theorem State.takeTick_stl (s : State) (ltag : BitVec 6) :
    (s.takeTick ltag).stl = s.stl := by
  have release : s.releaseSlot.stl = s.stl := rfl
  unfold State.takeTick
  repeat' split
  all_goals simp [release, State.walkEntry, State.extraTick, apply_ite State.stl]
@[simp] theorem State.takeTick_ste (s : State) (ltag : BitVec 6) :
    (s.takeTick ltag).ste = s.ste := by
  have release : s.releaseSlot.ste = s.ste := rfl
  unfold State.takeTick
  repeat' split
  all_goals simp [release, State.walkEntry, State.extraTick, apply_ite State.ste]
@[simp] theorem State.takeTick_user (s : State) (ltag : BitVec 6) :
    (s.takeTick ltag).user = s.user := by
  have release : s.releaseSlot.user = s.user := rfl
  unfold State.takeTick
  repeat' split
  all_goals simp [release, State.walkEntry, State.extraTick, apply_ite State.user]

end Sys2Proof.Machine
end

section
/-! SUPPORT. The store's memory stays in its canonical form (log entry 16). -/

namespace Sys2Proof.Machine

set_option Elab.async false

open Sys2Proof (Instr LinkUnit Bank)

/-! ## Effects of requests -/

/-- `P` is kept by what each command does when its request is executed. -/
structure State.EffectsKeep (P : State → Prop) : Prop where
  write : ∀ (r : Request) (u : State), P u → P (applyWrite r u)
  setId : ∀ (r : Request) (u : State), P u → P (applySetId r u)
  drain : ∀ (r : Request) (u : State), P u → P (applyDrain r u)
  startRun : ∀ (r : Request) (u : State), P u → P (applyStartRun r u)
  stopRun : ∀ (r : Request) (u : State), P u → P (applyStopRun r u)
  enterQuiet : ∀ (r : Request) (u : State), P u → P (applyEnterQuiet r u)
  softReset : ∀ (r : Request) (u : State), P u → P (applySoftReset r u)
  runSelftest : ∀ (r : Request) (u : State), P u → P (applyRunSelftest r u)
  commit : ∀ (r : Request) (u : State), P u → P (applyCommit r u)
  discardStaged : ∀ (r : Request) (u : State), P u → P (applyDiscardStaged r u)
  clearMute : ∀ (r : Request) (u : State), P u → P (applyClearMute r u)
  logReset : ∀ (r : Request) (u : State), P u → P (applyLogReset r u)

theorem State.EffectsKeep.effectOf {P : State → Prop} (k : State.EffectsKeep P) (c : Instr) (r : Request) (u : State)
    (h : P u) : P (effectOf c r u) := by
  cases c with
  | setId b => exact k.setId r u h
  | drain => exact k.drain r u h
  | startRun b => exact k.startRun r u h
  | stopRun b => exact k.stopRun r u h
  | enterQuiet b => exact k.enterQuiet r u h
  | softReset b => exact k.softReset r u h
  | runSelftest b => exact k.runSelftest r u h
  | commit b => exact k.commit r u h
  | discardStaged b => exact k.discardStaged r u h
  | clearMute b => exact k.clearMute r u h
  | logReset b => exact k.logReset r u h
  | registerWrite b | linkStatusClear b | feedStatusClear b | channelRecordWrite b | supersedeClear b
  | activeTableWrite b | stagedTableWrite b | frameWatchWrite b | storeCfgWrite b | storeWrite b
  | logLossClear b | eventRetire b | clearLost b | alertEnableWrite b => exact k.write r u h
  | _ => exact h

/-- The words of a WRITE outside the store keep what each written word keeps. -/
theorem State.writeFrom_keeps {P : State → Prop} (h : ∀ u a w, P u → P (State.writeWord u a w)) (s : State) (a : Nat)
    (ws : List Word) (hs : P s) : P (s.writeFrom a ws) := by
  induction ws generalizing s a with
  | nil => exact hs
  | cons w ws ih => exact ih _ _ (h s a w hs)

/-- The failed words of S1 keep what each of them keeps. -/
theorem State.foldl_hold_keeps {P : State → Prop} (h : ∀ u f, P u → P (State.hold u f)) (s : State)
    (bad : List FailedWord) (hs : P s) : P (bad.foldl State.hold s) := by
  induction bad generalizing s with
  | nil => exact hs
  | cons f fs ih => exact ih _ (h s f hs)

/-! ## The memory through each operation of the store -/

@[simp] theorem Store.setBank_mem (t : Store) (b : Bank) (p : PageState) : (t.setBank b p).mem = t.mem := by
  cases b <;> rfl

@[simp] theorem Store.startOpen_mem (t : Store) (p : Nat) : (t.startOpen p).mem = t.mem := Store.setBank_mem ..

@[simp] theorem Store.openForDeferred_mem (t : Store) (p : Nat) : (t.openForDeferred p).mem = t.mem := by
  simp [Store.openForDeferred, apply_ite Store.mem]

@[simp] theorem Store.popQueue_mem (t : Store) : t.popQueue.mem = t.mem := rfl

@[simp] theorem Store.offer_mem (t : Store) (o : Offer) : (t.offer o).mem = t.mem := by
  rcases t.offer_cases o with ⟨-, e⟩ | ⟨-, -, e⟩ | ⟨-, -, e⟩ <;> rw [e]

theorem Store.writeRecord_wf {t : Store} (o : Offer) (h : t.mem.wf = true) : (t.writeRecord o).mem.wf = true :=
  Store.writeWords_wf (by split <;> exact h)

@[simp] theorem State.openNeeded_mem (s : State) (h : Header) : (s.openNeeded h).stl.mem = s.stl.mem := by
  obtain ⟨b0, b1, e⟩ := s.openNeeded_eq h
  rw [e]

@[simp] theorem State.writeRegister_mem (s : State) (a : Nat) (w : Word) :
    (s.writeRegister a w).stl.mem = s.stl.mem := by
  unfold State.writeRegister; split <;> rfl

@[simp] theorem State.writeWord_mem (s : State) (a : Nat) (w : Word) : (s.writeWord a w).stl.mem = s.stl.mem := by
  unfold State.writeWord
  split
  · exact s.writeRegister_mem a w
  all_goals rfl

@[simp] theorem State.hold_mem (s : State) (f : FailedWord) : (s.hold f).stl.mem = s.stl.mem := by
  unfold State.hold
  dsimp only
  repeat' split
  all_goals rfl

/-! ## The invariant -/

section
variable {s : State}

theorem State.treatRecord_canonical (o : Offer) (h : s.StoreCanonical) : (s.treatRecord o).StoreCanonical := by
  rcases s.treatRecord_cases o with ⟨-, e⟩ | ⟨-, -, e⟩ | ⟨-, -, -, e⟩ | ⟨-, -, -, e⟩ <;> rw [e]
  · exact h
  · simpa [State.StoreCanonical] using Store.writeRecord_wf o h
  · exact h
  · simpa [State.StoreCanonical] using h

theorem State.writerStep_canonical (h : s.StoreCanonical) : s.writerStep.StoreCanonical := by
  rcases s.writerStep_cases with ⟨-, e⟩ | ⟨o, rest, -, -, -, e⟩ <;> rw [e]
  · exact h
  · exact State.treatRecord_canonical o h

theorem State.phaseEffect_canonical (p : Phase) (bad : List FailedWord) (h : s.StoreCanonical) :
    (s.phaseEffect p bad).StoreCanonical := by
  cases p with
  | s1 => exact State.foldl_hold_keeps (by simp [State.StoreCanonical]) s bad h
  | s4 => exact Store.zero_wf _ _
  | _ => exact h

theorem State.endPhaseIfDone_canonical (failed : List FailedWord) (h : s.StoreCanonical) :
    (s.endPhaseIfDone failed).StoreCanonical := by
  rcases s.endPhaseIfDone_cases failed with ⟨-, -, e⟩ | ⟨-, e⟩ <;> rw [e]
  · exact State.phaseEffect_canonical (s := { s with ste := _ }) _ _ h
  · exact h

theorem applyWrite_canonical (r : Request) (h : s.StoreCanonical) : (applyWrite r s).StoreCanonical := by
  unfold applyWrite
  split
  · exact Store.writeStoreFrom_wf h
  · exact State.writeFrom_keeps (by simp [State.StoreCanonical]) s _ _ h

end

theorem effects_keep_canonical : State.EffectsKeep State.StoreCanonical where
  write r _ h := applyWrite_canonical r h
  setId _ _ h := h
  drain r u h := by unfold applyDrain; split <;> exact h
  startRun _ _ h := h
  stopRun r u h := by
    simpa [State.StoreCanonical, applyStopRun, State.stopNow, State.stopAtFrame, apply_ite State.stl] using h
  enterQuiet r u h := by simpa [State.StoreCanonical, applyEnterQuiet, apply_ite State.stl] using h
  softReset r u h := by unfold applySoftReset; split <;> exact h
  runSelftest _ _ h := h
  commit r u h := by simpa [State.StoreCanonical, applyCommit, State.holdCommit, apply_ite State.stl] using h
  discardStaged _ _ h := h
  clearMute _ _ h := h
  logReset _ _ h := h

theorem verdicts_keep_canonical : State.VerdictKeeps State.StoreCanonical := by
  constructor <;> simp [State.StoreCanonical]

theorem State.Act.keeps_canonical {s t : State} (act : s.Act t) (h : s.StoreCanonical) : t.StoreCanonical := by
  cases act with
  | writerStep => exact State.writerStep_canonical h
  | endPhase failed => exact State.endPhaseIfDone_canonical failed h
  | judge c r => exact State.judge_keeps verdicts_keep_canonical (effects_keep_canonical.effectOf c r) r h
  | completeOpen b =>
    rcases s.completeOpen_cases b with ⟨q, -, e⟩ | ⟨-, e⟩ <;> simpa [State.StoreCanonical, e] using h
  | endReply r => rcases s.endReply_cases r with ⟨-, e⟩ | ⟨-, e⟩ | ⟨-, e⟩ <;> rw [e] <;> exact h
  | countBeacon => rcases s.countBeacon_cases with ⟨-, e⟩ | ⟨-, e⟩ <;> rw [e] <;> exact h
  | takeMessage feed bits =>
    simpa [State.StoreCanonical, State.takeMessage, State.parityFailed, State.unclaimedMessage, State.claimMessage,
      apply_ite State.stl, apply_ite Store.mem] using h
  | now m | alert low | endUnit m | advance | clash detail | pinReset power | chi level | resync f =>
    exact h
  | expireWatch | endCauses u mid | endRun short | cutShort | beginRequest | judgeHeader o k | pinRelease mid
  | takeMarker number | takeTick ltag => simpa [State.StoreCanonical] using h

/-- Settles O5: every act keeps the canonical form; the writer, a WRITE of the store and the end of S4 write the memory, by
`Memory.writeWord` only. -/
theorem storeStaysCanonical : Obligations.StoreStaysCanonical :=
  fun _ _ h step => step_keeps (fun _ _ h => h) (fun _ _ => State.Act.keeps_canonical) step h

end Sys2Proof.Machine
end

section
/-! SUPPORT. What the acts do to the event unit, to the capture channels, to the append queue and to the registers with
stored fields: the four parts of O6. -/

namespace Sys2Proof.Machine

set_option Elab.async false

open Sys2Proof (Instr LinkUnit Bank Word)

/-! ## Raised events -/

/-- `e'` is `e` after some events have been raised. -/
def Events.Raised (e e' : Events) : Prop :=
  Relation.ReflTransGen (fun a b : Events => ∃ inReset k d f, b = a.push inReset k d f) e e'

@[refl] theorem Events.Raised.refl (e : Events) : e.Raised e := Relation.ReflTransGen.refl

theorem Events.Raised.trans {e e' e'' : Events} (h : e.Raised e') (h' : e'.Raised e'') : e.Raised e'' :=
  Relation.ReflTransGen.trans h h'

/-- What every raised event keeps. -/
theorem Events.Raised.keep {Q : Events → Prop} (push : ∀ e inReset k d f, Q e → Q (e.push inReset k d f))
    {e e' : Events} (h : e.Raised e') (he : Q e) : Q e' := by
  induction h with
  | refl => exact he
  | tail _ raised ih =>
    obtain ⟨inReset, k, d, f, rfl⟩ := raised
    exact push _ _ _ _ _ ih

@[simp] theorem Events.push_enable (e : Events) (inReset : Bool) (k : EventKind) (d f : BitVec 16) :
    (e.push inReset k d f).enable = e.enable := by
  rcases e.push_cases inReset k d f with ⟨-, h⟩ | ⟨-, -, -, h⟩ | ⟨-, -, -, h⟩ <;> rw [h]

@[simp] theorem Events.push_alert (e : Events) (inReset : Bool) (k : EventKind) (d f : BitVec 16) :
    (e.push inReset k d f).alert = e.alert := by
  rcases e.push_cases inReset k d f with ⟨-, h⟩ | ⟨-, -, -, h⟩ | ⟨-, -, -, h⟩ <;> rw [h]

theorem Events.Raised.enable {e e' : Events} (h : e.Raised e') : e'.enable = e.enable :=
  h.keep (Q := fun x => x.enable = e.enable) (by simp) rfl

theorem Events.Raised.alert {e e' : Events} (h : e.Raised e') : e'.alert = e.alert :=
  h.keep (Q := fun x => x.alert = e.alert) (by simp) rfl

/-- Raising an event, on the event unit of any state. -/
theorem Events.Raised.raise {e : Events} {s : State} (h : e.Raised s.evu) (k : EventKind) (d : BitVec 16) :
    e.Raised (s.raise k d).evu :=
  Relation.ReflTransGen.tail h ⟨_, _, _, _, rfl⟩

section
variable {e : Events} {s : State}

theorem Events.Raised.swapTables (h : e.Raised s.evu) (c : SwapCause) : e.Raised (s.swapTables c).evu :=
  h.raise (s := { s with sct := s.sct.swap }) _ _

theorem Events.Raised.leaveRun (h : e.Raised s.evu) : e.Raised s.leaveRun.evu := by
  rw [State.leaveRun_evu]
  rcases s.commitOnStop_cases with ⟨-, eq⟩ | ⟨-, eq⟩ <;> rw [eq]
  · exact h
  · exact h.swapTables .stop

theorem Events.Raised.laneFault (h : e.Raised s.evu) (k : LaneFault) (b i : Nat) :
    e.Raised (s.laneFault k b i).evu := by
  rcases s.laneFault_cases k b i with ⟨-, eq⟩ | ⟨-, eq⟩ <;> rw [eq]
  · exact h.raise (s := { s with lane := _ }) _ _
  · exact h

theorem Events.Raised.logEvents (h : e.Raised s.evu) (before : Store) : e.Raised (s.logEvents before).evu := by
  unfold State.logEvents
  dsimp only
  split <;> split
  · exact (h.raise _ _).raise _ _
  · exact h.raise _ _
  · exact h.raise _ _
  · exact h

theorem Events.Raised.writerStep (h : e.Raised s.evu) : e.Raised s.writerStep.evu := by
  rcases s.writerStep_cases with ⟨-, eq⟩ | ⟨o, rest, -, -, -, eq⟩ <;> rw [eq]
  · exact h
  · rcases State.treatRecord_cases { s with stl := s.stl.stepTaken } o with
      ⟨-, eq⟩ | ⟨-, -, eq⟩ | ⟨-, -, -, eq⟩ | ⟨-, -, -, eq⟩ <;> rw [eq]
    · exact h
    · refine .logEvents ?_ _
      exact h
    · exact h
    · exact h

theorem Events.Raised.expireWatch (h : e.Raised s.evu) : e.Raised s.expireWatch.evu := by
  rcases s.expireWatch_cases with ⟨-, -, eq⟩ | ⟨-, eq⟩ <;> rw [eq]
  · exact h.raise _ _
  · exact h

theorem State.hold_evu (s : State) (f : FailedWord) : (s.hold f).evu = s.evu := by
  unfold State.hold
  dsimp only
  repeat' split
  all_goals rfl

theorem State.foldl_hold_evu (s : State) (bad : List FailedWord) : (bad.foldl State.hold s).evu = s.evu :=
  State.foldl_hold_keeps (P := fun t => t.evu = s.evu) (fun u f h => (u.hold_evu f).trans h) s bad rfl

theorem Events.Raised.endPhaseIfDone (h : e.Raised s.evu) (failed : List FailedWord) :
    e.Raised (s.endPhaseIfDone failed).evu := by
  rcases s.endPhaseIfDone_cases failed with ⟨-, -, eq⟩ | ⟨-, eq⟩ <;> rw [eq]
  · unfold State.endPhase
    cases s.ste.phase with
    | s1 => rwa [State.phaseEffect, State.foldl_hold_evu]
    | s6 => exact h.raise (s := { s with ste := _, ctl := _, sct := _ }) _ _
    | _ => exact h
  · exact h

theorem Events.Raised.cutShort (h : e.Raised s.evu) : e.Raised s.cutShort.evu := by
  rcases s.cutShort_cases with ⟨r, n, -, eq⟩ | ⟨-, eq⟩ <;> rw [eq]
  · exact h.raise _ _
  · exact h

theorem Events.Raised.endRun (h : e.Raised s.evu) : e.Raised s.endRun.evu := by
  rcases s.endRun_cases with ⟨-, -, -, eq⟩ | ⟨-, -, eq⟩ | eq <;> rw [eq]
  · exact h
  · exact Events.Raised.raise (s := State.atPlace _ 20) h _ _
  · exact h

theorem Events.Raised.judgeHeader (h : e.Raised s.evu) (o : BitVec 64) : e.Raised (s.judgeHeader o).evu := by
  unfold State.judgeHeader
  split_ifs
  · exact h.raise (s := { s with link := _ }) _ _
  · exact h
  · exact h

theorem Events.Raised.offer (h : e.Raised s.evu) (o : Offer) : e.Raised (s.offer o).evu := by
  unfold State.offer
  split
  · exact h.raise _ _
  · exact h

theorem Events.Raised.takeMessage (h : e.Raised s.evu) (feed : BitVec 2) (bits : BitVec 25) :
    e.Raised (s.takeMessage feed bits).evu := by
  unfold State.takeMessage
  split_ifs
  · exact h
  · exact h.raise (s := { s with cap := _ }) _ _
  · exact h
  · unfold State.claimMessage
    dsimp only
    split
    · refine .offer ?_ _
      exact h
    · exact h

theorem Events.Raised.commitAtMarker (h : e.Raised s.evu) (n : BitVec 16) : e.Raised (s.commitAtMarker n).evu := by
  unfold State.commitAtMarker
  split
  · split
    · exact h.swapTables _
    · exact h
  · exact h

theorem Events.Raised.recordMarker (h : e.Raised s.evu) (n : BitVec 16) : e.Raised (s.recordMarker n).evu := by
  unfold State.recordMarker
  dsimp only
  split
  · refine .raise ?_ _ _
    exact h
  · exact h

theorem Events.Raised.completeness (h : e.Raised s.evu) : e.Raised s.completeness.evu := by
  unfold State.completeness
  split
  · exact h.laneFault ..
  · exact h

theorem Events.Raised.takeMarker (h : e.Raised s.evu) (n : BitVec 16) : e.Raised (s.takeMarker n).evu := by
  have judged := (h.recordMarker n).completeness
  unfold State.takeMarker
  dsimp only
  split_ifs
  · exact h
  · exact h.leaveRun
  · exact judged.leaveRun
  · exact judged.commitAtMarker n

theorem Events.Raised.walkEntry (h : e.Raised s.evu) (ltag : BitVec 6) : e.Raised (s.walkEntry ltag).evu := by
  unfold State.walkEntry State.driveSlot State.loseSlot
  dsimp only
  split
  · split
    · refine .laneFault ?_ _ _ _
      exact h
    · exact h
  · exact h

theorem Events.Raised.extraTick (h : e.Raised s.evu) : e.Raised s.extraTick.evu := by
  unfold State.extraTick
  dsimp only
  split
  · exact h
  · refine .laneFault ?_ _ _ _
    exact h

theorem Events.Raised.takeTick (h : e.Raised s.evu) (ltag : BitVec 6) : e.Raised (s.takeTick ltag).evu := by
  unfold State.takeTick
  split
  · exact h
  split
  · exact h.leaveRun
  split
  · exact h
  · exact h
  · split
    · exact .walkEntry (s := s.releaseSlot) h ltag
    · exact .extraTick (s := s.releaseSlot) h
  · exact .extraTick (s := s.releaseSlot) h

theorem Events.Raised.applyStopRun (h : e.Raised s.evu) (r : Request) : e.Raised (applyStopRun r s).evu := by
  unfold Machine.applyStopRun State.stopNow State.stopAtFrame
  split_ifs
  · exact h
  · exact h
  · exact h.leaveRun
  · exact h
  · exact h.leaveRun
  · exact h

theorem Events.Raised.applyCommit (h : e.Raised s.evu) (r : Request) : e.Raised (applyCommit r s).evu := by
  unfold Machine.applyCommit State.holdCommit
  dsimp only
  split_ifs
  · exact h.raise (s := { s with sct := _ }) _ _
  · exact h
  · exact h.swapTables _

end

/-! ## The event queue -/

/-- What holds of the event unit in every step: it is kept by a raised event, a reset, and what a WRITE does to it. -/
structure Events.Kept (Q : Events → Prop) : Prop where
  push : ∀ (e : Events) (inReset : Bool) (k : EventKind) (d f : BitVec 16), Q e → Q (e.push inReset k d f)
  alertn : ∀ (e : Events) (low : Bool), Q e → Q { e with alertn := low }
  reset : ∀ (e : Events) (k : ResetCause), Q e → Q (e.reset k)
  enable : ∀ (e : Events) (w : Word), Q e → Q { e with enable := w &&& storedBits 0x021 }
  alert : ∀ (e : Events) (w : Word), Q e → Q { e with alert := w &&& storedBits 0x022 }
  retire : ∀ (e : Events) (w : Word), Q e → Q ((e.retire w).clearLost w)

section
variable {Q : Events → Prop}

theorem State.writeRegister_evu_cases (s : State) (a : Nat) (w : Word) :
    (s.writeRegister a w).evu = s.evu ∨ (s.writeRegister a w).evu = { s.evu with enable := w &&& storedBits 0x021 } ∨
      (s.writeRegister a w).evu = { s.evu with alert := w &&& storedBits 0x022 } ∨
      (s.writeRegister a w).evu = (s.evu.retire w).clearLost w := by
  unfold State.writeRegister
  split
  all_goals first
    | exact .inl rfl
    | exact .inr (.inl rfl)
    | exact .inr (.inr (.inl rfl))
    | exact .inr (.inr (.inr rfl))

theorem Events.Kept.writeWord (k : Events.Kept Q) (s : State) (a : Nat) (w : Word) (h : Q s.evu) :
    Q (s.writeWord a w).evu := by
  unfold State.writeWord
  split
  · rcases s.writeRegister_evu_cases a w with e | e | e | e <;> rw [e]
    · exact h
    · exact k.enable _ _ h
    · exact k.alert _ _ h
    · exact k.retire _ _ h
  all_goals exact h

theorem Events.Kept.raised (k : Events.Kept Q) {e e' : Events} (r : e.Raised e') (h : Q e) : Q e' := r.keep k.push h

theorem Events.Kept.effects (k : Events.Kept Q) : State.EffectsKeep (fun s => Q s.evu) where
  write r u h := by
    unfold applyWrite
    split
    · exact h
    · exact State.writeFrom_keeps (P := fun s => Q s.evu) k.writeWord u _ _ h
  setId _ _ h := h
  drain r u h := by unfold applyDrain; split <;> exact h
  startRun _ _ h := h
  stopRun r u h := k.raised (.applyStopRun (.refl _) r) h
  enterQuiet r u h := by unfold applyEnterQuiet; split <;> exact h
  softReset r u h := by
    unfold applySoftReset
    split
    · exact k.reset _ _ h
    · exact h
  runSelftest _ _ h := h
  commit r u h := k.raised (.applyCommit (.refl _) r) h
  discardStaged _ _ h := h
  clearMute _ _ h := h
  logReset _ _ h := h

theorem Events.Kept.verdicts (k : Events.Kept Q) : State.VerdictKeeps (fun s => Q s.evu) where
  rx _ _ h := h
  remember u r h := by simpa using h
  checkFailed u hd h := k.push _ _ _ _ _ h
  validation u hd h := by simpa using h
  opening u hd h := by simpa using h
  ignored u c i h := k.push _ _ _ _ _ h
  missed _ h := h

theorem Events.Kept.act (k : Events.Kept Q) {s t : State} (act : s.Act t) (h : Q s.evu) : Q t.evu := by
  cases act with
  | alert low => exact k.alertn _ _ h
  | judge c r => exact State.judge_keeps k.verdicts (k.effects.effectOf c r) r h
  | writerStep => exact k.raised (.writerStep (.refl _)) h
  | expireWatch => exact k.raised (.expireWatch (.refl _)) h
  | endPhase failed => exact k.raised (.endPhaseIfDone (.refl _) failed) h
  | clash detail => exact k.push _ _ _ _ _ h
  | endRun short => exact k.raised (.endRun (.refl _)) h
  | cutShort => exact k.raised (.cutShort (.refl _)) h
  | judgeHeader o n => exact k.raised (.judgeHeader (.refl _) o) h
  | takeMessage feed bits => exact k.raised (.takeMessage (.refl _) feed bits) h
  | takeMarker number => exact k.raised (.takeMarker (.refl _) number) h
  | takeTick ltag => exact k.raised (.takeTick (.refl _) ltag) h
  | endReply r =>
    rcases s.endReply_cases r with ⟨-, e⟩ | ⟨-, e⟩ | ⟨-, e⟩ <;> rw [e]
    · exact h
    · exact h
    · exact k.reset _ _ h
  | countBeacon =>
    rcases s.countBeacon_cases with ⟨-, e⟩ | ⟨-, e⟩ <;> rw [e]
    · exact k.reset _ _ h
    · exact h
  | pinReset power => exact k.reset _ _ h
  | now m | endUnit m | advance | chi level | resync f => exact h
  | completeOpen b | endCauses u mid | beginRequest | pinRelease mid => simpa using h

end

/-- A new record, with the next serial, leaves the serials before it (R140, R141). -/
theorem serial_push (x : BitVec 8) (n j : Nat) :
    x - BitVec.ofNat 8 n + BitVec.ofNat 8 j = x + 1 - BitVec.ofNat 8 (n + 1) + BitVec.ofNat 8 j := by
  rw [BitVec.ofNat_add, show BitVec.ofNat 8 1 = 1 from rfl]
  ring

/-- The records that are left after `d` of `n` are retired keep their serials (R144). -/
theorem serial_retire (x : BitVec 8) {n d : Nat} (h : d ≤ n) (j : Nat) :
    x - BitVec.ofNat 8 n + BitVec.ofNat 8 (d + j) = x - BitVec.ofNat 8 (n - d) + BitVec.ofNat 8 j := by
  obtain ⟨m, rfl⟩ := Nat.exists_eq_add_of_le h
  rw [Nat.add_sub_cancel_left, BitVec.ofNat_add, BitVec.ofNat_add]
  ring

theorem Events.push_consistent {e : Events} (h : e.Consistent) (inReset : Bool) (k : EventKind) (d f : BitVec 16) :
    (e.push inReset k d f).Consistent := by
  obtain ⟨fits, serials⟩ := h
  rcases e.push_cases inReset k d f with ⟨-, eq⟩ | ⟨-, -, -, eq⟩ | ⟨-, -, room, eq⟩ <;> rw [eq]
  · exact ⟨fits, serials⟩
  · exact ⟨fits, serials⟩
  · refine ⟨by simpa using room, fun j hj => ?_⟩
    have hj' : j < e.queue.length + 1 := by simpa using hj
    by_cases old : j < e.queue.length
    · simpa [List.getElem_append_left old, serials j old] using serial_push e.serial e.queue.length j
    · obtain rfl : j = e.queue.length := by omega
      simpa using serial_push e.serial e.queue.length e.queue.length

theorem Events.retire_consistent {e : Events} (h : e.Consistent) (w : Word) : ((e.retire w).clearLost w).Consistent := by
  obtain ⟨fits, serials⟩ := h
  refine ⟨by simp [Events.retire, Events.clearLost]; omega, fun j hj => ?_⟩
  have hj' : j < e.queue.length - (w.extractLsb' 0 5).toNat := by simpa [Events.retire, Events.clearLost] using hj
  have old := serials ((w.extractLsb' 0 5).toNat + j) (by omega)
  have shift := serial_retire e.serial (n := e.queue.length) (d := (w.extractLsb' 0 5).toNat) (by omega) j
  simp only [Events.retire, Events.clearLost, List.getElem_drop, List.length_drop]
  exact old.trans shift

/-- The event queue holds at most 16 records with consecutive serials (R141). -/
theorem Events.consistent_kept : Events.Kept Events.Consistent where
  push _ _ _ _ _ h := Events.push_consistent h ..
  alertn _ _ h := h
  reset _ _ _ := ⟨Nat.zero_le _, fun _ h => absurd h (Nat.not_lt_zero _)⟩
  enable _ _ h := h
  alert _ _ h := h
  retire _ w h := Events.retire_consistent h w

end Sys2Proof.Machine
end

section
/-! SUPPORT. The capture channels, the append queue and the registers with stored fields through every act; the rest of O6. -/

namespace Sys2Proof.Machine

set_option Elab.async false

open Sys2Proof (Instr LinkUnit Bank Word)

/-! ## Channels -/

theorem Capture.channel_setChannel (p : Capture) (c k : Nat) (v : Channel) :
    (p.setChannel c v).channel k = if k = c ∧ c < 32 then v else p.channel k := by
  simp only [Capture.channel, Capture.setChannel, Vector.getElem?_setIfInBounds]
  by_cases h : c = k
  · subst h
    by_cases hc : c < 32 <;> simp [hc]
  · simp [h, Ne.symm h]

@[simp] theorem Capture.channel_setFeed (p : Capture) (f k : Nat) (v : Feed) :
    (p.setFeed f v).channel k = p.channel k := rfl

@[simp] theorem Capture.channel_releaseFeeds (p : Capture) (mid : BitVec 4) (k : Nat) :
    (p.releaseFeeds mid).channel k = p.channel k := rfl

/-- A change of all capture channels, on one of them. -/
theorem Capture.channel_map (p : Capture) (f : Channel → Channel) (k : Nat) :
    ({ p with channels := p.channels.map f } : Capture).channel k =
      if k < 32 then f (p.channel k) else Channel.initial := by
  by_cases h : k < 32 <;> simp [Capture.channel, h]

@[simp] theorem Capture.channel_reset (k : Nat) : Capture.reset.channel k = Channel.initial := by
  by_cases h : k < 32 <;> simp [Capture.channel, Capture.reset, h]

/-- What holds of a channel in every step: it is kept by a reset, a message, and what QUIET, a test, a slot and a WRITE do to
it. -/
structure Channel.Kept (Q : Channel → Prop) : Prop where
  initial : Q Channel.initial
  claim : ∀ (c : Channel) (value : BitVec 20) (overRange : Bool), Q c → Q (c.claim value overRange)
  noData : ∀ c : Channel, Q c → Q c.markNoData
  afterTest : ∀ c : Channel, Q c → Q c.afterTest
  place : ∀ c : Channel, Q c → Q c.place
  record : ∀ (c : Channel) (w : Word), Q c → Q { c with record := w &&& storedBits 0x100 }
  writeRecord : ∀ (c : Channel) (w : Word), Q c → Q (c.writeRecord w)
  writeSuperseded : ∀ (c : Channel) (w : Word), Q c → Q (c.writeSuperseded w)

/-- Every channel meets `Q`. -/
def State.Channels (Q : Channel → Prop) (s : State) : Prop := ∀ k, Q (s.cap.channel k)

section
variable {Q : Channel → Prop} {s : State}

theorem State.Channels.of_cap {t : State} (h : s.Channels Q) (e : t.cap = s.cap) : t.Channels Q := by
  intro k
  rw [e]
  exact h k

theorem State.Channels.updateChannel (h : s.Channels Q) {f : Channel → Channel} (hf : ∀ c, Q c → Q (f c)) (c : Nat) :
    (s.updateChannel c f).Channels Q := by
  intro k
  simp only [State.updateChannel, Capture.channel_setChannel]
  split
  · exact hf _ (h c)
  · exact h k

theorem State.Channels.setChannel {cap : Capture} (h : ∀ k, Q (cap.channel k)) {c : Nat} {v : Channel} (hv : Q v)
    (k : Nat) : Q ((cap.setChannel c v).channel k) := by
  rw [Capture.channel_setChannel]
  split
  · exact hv
  · exact h k

theorem State.Channels.map (k : Channel.Kept Q) {cap : Capture} (h : ∀ c, Q (cap.channel c)) {f : Channel → Channel}
    (hf : ∀ c, Q c → Q (f c)) (c : Nat) : Q (({ cap with channels := cap.channels.map f } : Capture).channel c) := by
  rw [Capture.channel_map]
  split
  · exact hf _ (h c)
  · exact k.initial

theorem Channel.Kept.reset (k : Channel.Kept Q) (c : Nat) : Q (Capture.reset.channel c) := by
  rw [Capture.channel_reset]
  exact k.initial

/-- A write of a register leaves the channels alone. -/
theorem State.writeRegister_channel (s : State) (a : Nat) (w : Word) (k : Nat) :
    (s.writeRegister a w).cap.channel k = s.cap.channel k := by
  unfold State.writeRegister
  split <;> rfl

theorem Channel.Kept.writeWord (k : Channel.Kept Q) (s : State) (a : Nat) (w : Word) (h : s.Channels Q) :
    (s.writeWord a w).Channels Q := by
  unfold State.writeWord
  split
  · intro c
    rw [State.writeRegister_channel]
    exact h c
  · exact h.updateChannel (k.writeRecord · w) _
  · exact h.updateChannel (k.writeSuperseded · w) _
  all_goals exact h

/-- A channel record is stored by one mask, whatever its number (R69). -/
theorem storedBits_record {a : Nat} (h : 0x100 ≤ a ∧ a ≤ 0x11F) : storedBits a = storedBits 0x100 := by
  unfold storedBits
  split <;> first | omega | simp [h]

theorem Channel.Kept.hold (k : Channel.Kept Q) (s : State) (f : FailedWord) (h : s.Channels Q) :
    (s.hold f).Channels Q := by
  unfold State.hold
  dsimp only
  split
  case h_11 =>
    split
    · rename_i record
      rw [storedBits_record record]
      exact h.updateChannel (k.record · f.2) _
    · exact h
  all_goals exact h

theorem Channel.Kept.phaseEffect (k : Channel.Kept Q) (p : Phase) (bad : List FailedWord) (h : s.Channels Q) :
    (s.phaseEffect p bad).Channels Q := by
  cases p with
  | s1 => exact State.foldl_hold_keeps k.hold s bad h
  | s5 => exact State.Channels.map k h k.afterTest
  | _ => exact h

theorem applyWrite_channels (k : Channel.Kept Q) (r : Request) (h : s.Channels Q) : (applyWrite r s).Channels Q := by
  unfold applyWrite
  split
  · exact h
  · exact State.writeFrom_keeps k.writeWord s _ _ h

theorem Channel.Kept.effects (k : Channel.Kept Q) : State.EffectsKeep (State.Channels Q) where
  write r _ h := applyWrite_channels k r h
  setId _ _ h := h
  drain r u h := by unfold applyDrain; split <;> exact h
  startRun _ _ h := h
  stopRun r u h := h.of_cap (by simp [applyStopRun, State.stopNow, State.stopAtFrame, apply_ite State.cap])
  enterQuiet r u h := by
    unfold applyEnterQuiet
    split
    · exact State.Channels.map k h k.noData
    · exact h
  softReset r u h := by
    unfold applySoftReset
    split
    · exact k.reset
    · exact h
  runSelftest _ _ h := h
  commit r u h := h.of_cap (by simp [applyCommit, State.holdCommit, apply_ite State.cap])
  discardStaged _ _ h := h
  clearMute _ _ h := h
  logReset _ _ h := h

theorem Channel.Kept.verdicts (Q : Channel → Prop) : State.VerdictKeeps (State.Channels Q) where
  rx _ _ h := h
  remember _ _ h := h.of_cap (by simp)
  checkFailed _ _ h := h
  validation _ _ h := h.of_cap (by simp)
  opening _ _ h := h.of_cap (by simp)
  ignored _ _ _ h := h
  missed _ h := h

theorem Channel.Kept.takeMessage (k : Channel.Kept Q) (feed : BitVec 2) (bits : BitVec 25) (h : s.Channels Q) :
    (s.takeMessage feed bits).Channels Q := by
  unfold State.takeMessage
  split_ifs
  · exact h
  · exact h
  · exact h
  · have claimed : State.Channels Q { s with
        cap := s.cap.setChannel (messageChannel feed bits)
          ((s.cap.channel (messageChannel feed bits)).claim (messageValue bits) (messageOver bits)) } :=
      State.Channels.setChannel h (k.claim _ _ _ (h _))
    unfold State.claimMessage
    dsimp only
    split
    · exact claimed.of_cap (State.offer_cap ..)
    · exact claimed

theorem Channel.Kept.placeWord (k : Channel.Kept Q) (c : Nat) (h : s.Channels Q) : (s.placeWord c).Channels Q := by
  intro j
  unfold State.placeWord Capture.place
  dsimp only
  split
  · exact State.Channels.setChannel h (k.place _ (h c)) j
  · exact h j

theorem Channel.Kept.takeTick (k : Channel.Kept Q) (ltag : BitVec 6) (h : s.Channels Q) :
    (s.takeTick ltag).Channels Q := by
  have extra : s.releaseSlot.extraTick.Channels Q := by
    unfold State.extraTick
    dsimp only
    split
    · exact h
    · exact h.of_cap (by simp [State.releaseSlot])
  unfold State.takeTick
  split
  · exact h
  split
  · exact h.of_cap (by simp)
  split
  · exact h
  · exact h
  · split
    · unfold State.walkEntry State.driveSlot
      dsimp only
      split
      · split
        · exact h.of_cap (by simp [State.loseSlot, State.releaseSlot])
        · exact k.placeWord (s := s.releaseSlot) _ h
      · exact h
    · exact extra
  · exact extra

theorem State.Channels.leaveReset {v : State} (h : s.Channels Q) (e : v.cap = s.cap) (mid : BitVec 4) :
    (v.tryLeaveReset mid).Channels Q := by
  rcases v.tryLeaveReset_cases mid with ⟨-, -, eq⟩ | ⟨-, eq⟩ <;> rw [eq]
  · intro c
    simpa [State.testBegun, e] using h c
  · exact h.of_cap e

theorem Channel.Kept.act (k : Channel.Kept Q) {t : State} (act : s.Act t) (h : s.Channels Q) : t.Channels Q := by
  cases act with
  | endPhase failed =>
    rcases s.endPhaseIfDone_cases failed with ⟨-, -, e⟩ | ⟨-, e⟩ <;> rw [e]
    · exact k.phaseEffect (s := { s with ste := _ }) _ _ h
    · exact h
  | judge c r => exact State.judge_keeps (Channel.Kept.verdicts Q) (k.effects.effectOf c r) r h
  | endReply r =>
    rcases s.endReply_cases r with ⟨-, e⟩ | ⟨-, e⟩ | ⟨-, e⟩ <;> rw [e]
    · exact h
    · exact State.Channels.map k h k.noData
    · exact k.reset
  | countBeacon =>
    rcases s.countBeacon_cases with ⟨-, e⟩ | ⟨-, e⟩ <;> rw [e]
    · exact k.reset
    · exact h
  | pinReset power => exact k.reset
  | pinRelease mid =>
    unfold State.pinRelease
    split
    · exact .leaveReset h (by rfl) mid
    · exact h
  | endCauses u mid =>
    rcases s.endCauses_cases u mid with ⟨-, e⟩ | ⟨-, -, e⟩ <;> rw [e]
    · exact (State.Channels.leaveReset h (by rfl) mid).of_cap rfl
    · exact h
  | takeMessage feed bits => exact k.takeMessage feed bits h
  | takeTick ltag => exact k.takeTick ltag h
  | now m | alert low | endUnit m | advance | clash detail | chi level | resync f => exact h
  | writerStep | completeOpen b | expireWatch | endRun short | cutShort | beginRequest | judgeHeader o n
  | takeMarker number => exact h.of_cap (by simp)

end

/-- A channel is not FRESH and NODATA at once (R74). -/
def Channel.Apart (c : Channel) : Prop := ¬(c.sample.fresh = true ∧ c.sample.noData = true)

theorem Channel.apart_kept : Channel.Kept Channel.Apart where
  initial := by simp [Channel.Apart, Channel.initial]
  claim c value overRange h := by
    unfold Channel.claim
    split
    · simp [Channel.Apart, Sample.take]
    · exact h
  noData _ _ := by simp [Channel.Apart, Channel.markNoData, Sample.markNoData]
  afterTest _ _ := by simp [Channel.Apart, Channel.afterTest, Channel.initial]
  place _ _ := by simp [Channel.Apart, Channel.place]
  record _ _ h := h
  writeRecord _ _ h := h
  writeSuperseded _ _ h := h

/-- Bits 7 to 2 and 31 to 13 of a channel record carry no field (R69). -/
def Channel.FieldBits (c : Channel) : Prop := c.record.extractLsb' 2 6 = 0 ∧ c.record.extractLsb' 13 19 = 0

/-- Bits outside the mask with which a word is stored read as 0 (R172). -/
theorem extractLsb'_and_eq_zero {m : Word} {k n : Nat} (h : m.extractLsb' k n = 0) (w : Word) :
    (w &&& m).extractLsb' k n = 0 := by
  rw [BitVec.extractLsb'_and, h]
  exact BitVec.and_zero

theorem getLsbD_and_eq_false {m : Word} {k : Nat} (h : m.getLsbD k = false) (w : Word) :
    (w &&& m).getLsbD k = false := by
  rw [BitVec.getLsbD_and, h, Bool.and_false]

theorem Channel.fieldBits_masked (w : Word) (c : Channel) :
    Channel.FieldBits { c with record := w &&& storedBits 0x100 } :=
  ⟨extractLsb'_and_eq_zero rfl w, extractLsb'_and_eq_zero rfl w⟩

theorem Channel.fieldBits_kept : Channel.Kept Channel.FieldBits where
  initial := ⟨rfl, rfl⟩
  claim c value overRange h := by unfold Channel.claim; split <;> exact h
  noData _ h := h
  afterTest _ h := h
  place _ h := h
  record c w _ := Channel.fieldBits_masked w c
  writeRecord c w _ := Channel.fieldBits_masked w c
  writeSuperseded _ _ h := h

/-- Beyond the 32 channels there is only the one that a reset makes. -/
theorem State.channels_iff {Q : Channel → Prop} (initial : Q Channel.initial) (s : State) :
    s.Channels Q ↔ ∀ k < 32, Q (s.cap.channel k) := by
  refine ⟨fun h k _ => h k, fun h k => ?_⟩
  by_cases hk : k < 32
  · exact h k hk
  · simpa [Capture.channel, hk] using initial

end Sys2Proof.Machine
end

section
/-! SUPPORT. The store and log, and the registers with stored fields, through every act; O6. -/

namespace Sys2Proof.Machine

set_option Elab.async false

open Sys2Proof (Instr LinkUnit Bank Word)

/-! ## The store and log -/

/-- A record's words change the memory only. -/
theorem Store.writeWords_eq (t : Store) (a : Nat) (ws : List Word) : ∃ m, t.writeWords a ws = { t with mem := m } := by
  induction ws generalizing t a with
  | nil => exact ⟨t.mem, rfl⟩
  | cons w ws ih => exact ih (t.writeWord a 0xF w) (a + 1)

theorem Store.writeStoreFrom_eq (t : Store) (h : Header) (k n : Nat) (ws : List Word) :
    ∃ m, t.writeStoreFrom h k n ws = { t with mem := m } := by
  induction ws generalizing t k with
  | nil => exact ⟨t.mem, rfl⟩
  | cons w ws ih => exact ih (t.writeWord (h.address.toNat + k) (h.enables k n) w) (k + 1)

/-- All that the log writer's step can do to the store and log (R126). -/
theorem State.writerStep_stl_cases (s : State) :
    let t := s.stl.stepTaken
    let p := s.stl.placePage s.stl.tail
    s.writerStep.stl = t ∨
    (∃ o rest, s.ctl.mode ≠ .reset ∧ s.stl.queue = o :: rest ∧
      ((s.stl.dropsAtWriter = true ∧ s.writerStep.stl = t.dropAtWriter) ∨
        (s.stl.dropsAtWriter = false ∧ s.stl.pageOpen p = true ∧ s.writerStep.stl = (t.writeRecord o).popQueue) ∨
        (s.stl.dropsAtWriter = false ∧ s.stl.pageOpen p = false ∧ (s.stl.bank (s.stl.bankOf p)).isOpening = false ∧
          s.writerStep.stl = t.startOpen p))) := by
  intro t p
  rcases s.writerStep_cases with ⟨-, e⟩ | ⟨o, rest, -, mode, queue, e⟩ <;> rw [e]
  · exact .inl rfl
  · rcases State.treatRecord_cases { s with stl := s.stl.stepTaken } o with
      ⟨drops, e⟩ | ⟨keeps, isOpen, e⟩ | ⟨-, -, -, e⟩ | ⟨keeps, shut, idle, e⟩ <;> rw [e]
    · exact .inr ⟨o, rest, mode, queue, .inl ⟨drops, rfl⟩⟩
    · exact .inr ⟨o, rest, mode, queue, .inr (.inl ⟨keeps, isOpen, by simp [t]⟩)⟩
    · exact .inl rfl
    · exact .inr ⟨o, rest, mode, queue, .inr (.inr ⟨keeps, shut, idle, rfl⟩)⟩

/-- What holds of the store and log in every step: it is kept by each of their operations. -/
structure Store.Kept (Q : Store → Prop) : Prop where
  due : ∀ (t : Store) (due : Bool), Q t → Q { t with writerDue := due }
  bank : ∀ (t : Store) (b : Bank) (p : PageState), Q t → Q (t.setBank b p)
  mem : ∀ (t : Store) (m : Memory), Q t → Q { t with mem := m }
  drop : ∀ t : Store, Q t → Q t.dropAtWriter
  record : ∀ (t : Store) (o : Offer), Q t → Q (t.writeRecord o).popQueue
  offer : ∀ (t : Store) (o : Offer), Q t → Q (t.offer o)
  config : ∀ (t : Store) (w : Word), Q t → Q { t with cfg := w &&& storedBits 0x018 }
  watermark : ∀ (t : Store) (w : Word), Q t → Q { t with watermark := w &&& storedBits 0x019 }
  loss : ∀ (t : Store) (w : Word), Q t → Q (t.writeLoss w)
  retire : ∀ (t : Store) (n : Nat), Q t → Q (t.retireAndTake n)
  emptyQueue : ∀ t : Store, Q t → Q t.emptyQueue
  emptyLog : ∀ t : Store, Q t → Q t.emptyLog
  serial : ∀ (t : Store) (w : Word), Q t → Q { t with serial := w }
  reset : ∀ t : Store, Q t.reset

section
variable {Q : Store → Prop}

theorem Store.Kept.writerStep (k : Store.Kept Q) (s : State) (h : Q s.stl) : Q s.writerStep.stl := by
  have taken : Q s.stl.stepTaken := k.due _ _ h
  rcases s.writerStep_stl_cases with e | ⟨o, rest, -, -, ⟨-, e⟩ | ⟨-, -, e⟩ | ⟨-, -, -, e⟩⟩ <;> rw [e]
  · exact taken
  · exact k.drop _ taken
  · exact k.record _ _ taken
  · exact k.bank _ _ _ taken

theorem Store.Kept.banks (k : Store.Kept Q) {t : Store} (h : Q t) (b0 b1 : PageState) :
    Q { t with bank0 := b0, bank1 := b1 } :=
  k.bank _ .bank1 b1 (k.bank _ .bank0 b0 h)

theorem Store.Kept.emptied (k : Store.Kept Q) {t : Store} (h : Q t) : Q t.emptyLog.emptyQueue :=
  k.emptyQueue _ (k.emptyLog _ h)

theorem Store.Kept.writeRegister (k : Store.Kept Q) (s : State) (a : Nat) (w : Word) (h : Q s.stl) :
    Q (s.writeRegister a w).stl := by
  unfold State.writeRegister
  split
  case h_10 => exact k.emptied (k.config _ w h)
  case h_11 => exact k.watermark _ w h
  case h_12 => exact k.loss _ w h
  all_goals exact h

theorem Store.Kept.writeWord (k : Store.Kept Q) (s : State) (a : Nat) (w : Word) (h : Q s.stl) :
    Q (s.writeWord a w).stl := by
  unfold State.writeWord
  split
  · exact k.writeRegister s a w h
  all_goals exact h

theorem Store.Kept.hold (k : Store.Kept Q) (s : State) (f : FailedWord) (h : Q s.stl) : Q (s.hold f).stl := by
  unfold State.hold
  dsimp only
  split
  case h_5 at_cfg => rw [at_cfg]; exact k.config _ f.2 h
  case h_6 at_watermark => rw [at_watermark]; exact k.watermark _ f.2 h
  case h_11 => split <;> exact h
  all_goals exact h

theorem Store.Kept.phaseEffect (k : Store.Kept Q) (s : State) (p : Phase) (bad : List FailedWord) (h : Q s.stl) :
    Q (s.phaseEffect p bad).stl := by
  cases p with
  | s1 => exact State.foldl_hold_keeps (P := fun s => Q s.stl) k.hold s bad h
  | s2 => exact k.serial { s.stl.emptyLog with bank0 := .none, bank1 := .none } 0 (k.banks (k.emptyLog _ h) .none .none)
  | s4 => exact k.banks (k.mem _ _ h) .none .none
  | _ => exact h

theorem Store.Kept.effects (k : Store.Kept Q) : State.EffectsKeep (fun s => Q s.stl) where
  write r u h := by
    unfold applyWrite
    split
    · obtain ⟨m, e⟩ := u.stl.writeStoreFrom_eq r.hdr 0 r.words.length r.words
      exact e ▸ k.mem _ m h
    · exact State.writeFrom_keeps (P := fun s => Q s.stl) k.writeWord u _ _ h
  setId _ _ h := h
  drain r u h := by
    unfold applyDrain
    split
    · exact h
    · exact k.retire _ _ h
  startRun _ _ h := h
  stopRun r u h := by
    have : (applyStopRun r u).stl = u.stl := by
      simp [applyStopRun, State.stopNow, State.stopAtFrame, apply_ite State.stl]
    rwa [this]
  enterQuiet r u h := by unfold applyEnterQuiet; split <;> exact h
  softReset r u h := by
    unfold applySoftReset
    split
    · exact k.reset _
    · exact h
  runSelftest _ _ h := k.emptyQueue _ h
  commit r u h := by
    have : (applyCommit r u).stl = u.stl := by simp [applyCommit, State.holdCommit, apply_ite State.stl]
    rwa [this]
  discardStaged _ _ h := h
  clearMute _ _ h := h
  logReset _ _ h := k.emptied h

theorem Store.Kept.verdicts (k : Store.Kept Q) : State.VerdictKeeps (fun s => Q s.stl) where
  rx _ _ h := h
  remember u r h := by simpa using h
  checkFailed _ _ h := h
  validation u hd h := by simpa using h
  opening u hd h := by
    obtain ⟨b0, b1, e⟩ := u.openNeeded_eq hd
    rw [e]
    exact k.banks h b0 b1
  ignored _ _ _ h := h
  missed _ h := h

theorem Store.Kept.takeMessage (k : Store.Kept Q) {s : State} (feed : BitVec 2) (bits : BitVec 25) (h : Q s.stl) :
    Q (s.takeMessage feed bits).stl := by
  unfold State.takeMessage
  split_ifs
  · exact h
  · exact h
  · exact h
  · unfold State.claimMessage
    dsimp only
    split
    · rw [State.offer_stl]
      exact k.offer _ _ h
    · exact h

theorem Store.Kept.act (k : Store.Kept Q) {s t : State} (act : s.Act t) (h : Q s.stl) : Q t.stl := by
  cases act with
  | writerStep => exact k.writerStep s h
  | judge c r => exact State.judge_keeps k.verdicts (k.effects.effectOf c r) r h
  | completeOpen b =>
    rcases s.completeOpen_cases b with ⟨q, -, e⟩ | ⟨-, e⟩ <;> rw [e]
    · exact k.bank _ _ _ h
    · exact h
  | endPhase failed =>
    rcases s.endPhaseIfDone_cases failed with ⟨-, -, e⟩ | ⟨-, e⟩ <;> rw [e]
    · exact k.phaseEffect { s with ste := _ } _ _ h
    · exact h
  | endUnit m =>
    exact k.due { s.stl with bank0 := (s.stl.countUnit m).bank0, bank1 := (s.stl.countUnit m).bank1 } _
      (k.banks h _ _)
  | endReply r =>
    rcases s.endReply_cases r with ⟨-, e⟩ | ⟨-, e⟩ | ⟨-, e⟩ <;> rw [e]
    · exact h
    · exact h
    · exact k.reset _
  | countBeacon =>
    rcases s.countBeacon_cases with ⟨-, e⟩ | ⟨-, e⟩ <;> rw [e]
    · exact k.reset _
    · exact h
  | pinReset power => exact k.reset _
  | takeMessage feed bits => exact k.takeMessage feed bits h
  | now m | alert low | advance | clash detail | chi level | resync f => exact h
  | expireWatch | endCauses u mid | endRun short | cutShort | beginRequest | judgeHeader o n | pinRelease mid
  | takeMarker number | takeTick ltag => simpa using h

end

/-- The append queue holds at most eight records (R125). -/
theorem Store.queueFits_kept : Store.Kept Store.QueueFits where
  due _ _ h := h
  bank t b p h := by cases b <;> exact h
  mem _ _ h := h
  drop t h := by simp only [Store.QueueFits, Store.dropAtWriter, Store.popQueue, List.length_tail] at *; omega
  record t o h := by
    have same : (t.writeRecord o).queue = t.queue := by
      unfold Store.writeRecord
      dsimp only
      obtain ⟨m, e⟩ := (if t.full then t.discardOldest else t).writeWords_eq
        ((if t.full then t.discardOldest else t).placeAddress (if t.full then t.discardOldest else t).tail)
        ((if t.full then t.discardOldest else t).recordOf o)
      rw [e]
      dsimp only
      split <;> rfl
    simp only [Store.QueueFits, Store.popQueue, List.length_tail, same] at *
    omega
  offer t o h := by
    rcases t.offer_cases o with ⟨-, e⟩ | ⟨-, -, e⟩ | ⟨-, room, e⟩ <;> rw [e]
    · exact h
    · exact h
    · simpa [Store.QueueFits] using room
  config _ _ h := h
  watermark _ _ h := h
  loss _ _ h := h
  retire _ _ h := h
  emptyQueue _ _ := Nat.zero_le _
  emptyLog _ h := h
  serial _ _ h := h
  reset _ := Nat.zero_le _


/-- STORE_CFG and LOG_WATERMARK hold their fields only (R118, R131). -/
def Store.FieldBits (t : Store) : Prop :=
  t.cfg.extractLsb' 3 5 = 0 ∧ t.cfg.getLsbD 15 = false ∧ t.cfg.extractLsb' 24 8 = 0 ∧
    t.watermark.extractLsb' 14 18 = 0

theorem Store.FieldBits.of_eq {t u : Store} (h : t.FieldBits) (cfg : u.cfg = t.cfg) (mark : u.watermark = t.watermark) :
    u.FieldBits := by
  unfold Store.FieldBits
  rw [cfg, mark]
  exact h

theorem Store.writeRecord_eq (t : Store) (o : Offer) :
    ∃ m, t.writeRecord o =
      { (if t.full then t.discardOldest else t) with
        mem := m
        serial := t.serial + 1
        tail := t.placeAfter t.tail 1
        count := (if t.full then t.discardOldest else t).count + 1 } := by
  unfold Store.writeRecord
  split <;> dsimp only
  · obtain ⟨m, e⟩ := t.discardOldest.writeWords_eq (t.discardOldest.placeAddress t.discardOldest.tail)
      (t.discardOldest.recordOf o)
    exact ⟨m, by rw [e]; rfl⟩
  · obtain ⟨m, e⟩ := t.writeWords_eq (t.placeAddress t.tail) (t.recordOf o)
    exact ⟨m, by rw [e]; rfl⟩

theorem Store.fieldBits_kept : Store.Kept Store.FieldBits where
  due _ _ h := h
  bank t b p h := by cases b <;> exact h
  mem _ _ h := h
  drop _ h := h
  record t o h := by
    obtain ⟨m, e⟩ := t.writeRecord_eq o
    refine h.of_eq ?_ ?_ <;> rw [e] <;> simp only [Store.popQueue] <;> split <;> rfl
  offer t o h := by rcases t.offer_cases o with ⟨-, e⟩ | ⟨-, -, e⟩ | ⟨-, -, e⟩ <;> rw [e] <;> exact h
  config _ w h :=
    ⟨extractLsb'_and_eq_zero rfl w, getLsbD_and_eq_false rfl w, extractLsb'_and_eq_zero rfl w, h.2.2.2⟩
  watermark _ w h := ⟨h.1, h.2.1, h.2.2.1, extractLsb'_and_eq_zero rfl w⟩
  loss _ _ h := h
  retire _ _ h := h
  emptyQueue _ h := h
  emptyLog _ h := h
  serial _ _ h := h
  reset _ := by
    change (0 : Word).extractLsb' 3 5 = 0 ∧ (0 : Word).getLsbD 15 = false ∧ (0 : Word).extractLsb' 24 8 = 0 ∧
      (0 : Word).extractLsb' 14 18 = 0
    decide

/-! ## LINK_CFG, FRAME_WATCH, SPAN_VALUE and FEED_CFG -/

/-- Four registers as held. -/
structure HeldWords where
  link : Word
  watch : Word
  span : Word
  feed : Word

def State.heldWords (s : State) : HeldWords := ⟨s.link.cfg, s.lane.watchCfg, s.cap.span, s.cap.feedCfg⟩

/-- They hold their fields only (R14, R65, R114, R162). -/
structure HeldWords.FieldBits (w : HeldWords) : Prop where
  link : w.link.extractLsb' 8 24 = 0
  watch : w.watch.extractLsb' 8 24 = 0
  span : w.span.extractLsb' 20 12 = 0
  feed : w.feed.extractLsb' 4 28 = 0

/-- The registers of `s` hold their fields only. -/
def State.HeldFields (s : State) : Prop := s.heldWords.FieldBits

section
variable {s : State}

theorem State.HeldFields.of_eq {t : State} (h : s.HeldFields) (e : t.heldWords = s.heldWords) : t.HeldFields := by
  unfold State.HeldFields
  rw [e]
  exact h

theorem State.HeldFields.reset (h : s.HeldFields) (k : ResetCause) : (s.beginReset k).HeldFields where
  link := by
    cases k with
    | soft => exact h.link
    | _ => change (0x24 : Word).extractLsb' 8 24 = 0; decide
  watch := by change (0 : Word).extractLsb' 8 24 = 0; decide
  span := by change (0x00040000 : Word).extractLsb' 20 12 = 0; decide
  feed := by change (0xF : Word).extractLsb' 4 28 = 0; decide

theorem State.HeldFields.writeRegister (h : s.HeldFields) (a : Nat) (w : Word) : (s.writeRegister a w).HeldFields := by
  unfold State.writeRegister
  split
  case h_1 => exact { h with link := extractLsb'_and_eq_zero rfl w }
  case h_3 => exact { h with watch := extractLsb'_and_eq_zero rfl w }
  case h_4 => exact { h with span := extractLsb'_and_eq_zero rfl w }
  case h_5 => exact { h with feed := extractLsb'_and_eq_zero rfl w }
  all_goals exact h.of_eq rfl

theorem State.HeldFields.writeWord (s : State) (a : Nat) (w : Word) (h : s.HeldFields) : (s.writeWord a w).HeldFields := by
  unfold State.writeWord
  split
  · exact h.writeRegister a w
  all_goals exact h.of_eq rfl

theorem State.HeldFields.hold (s : State) (f : FailedWord) (h : s.HeldFields) : (s.hold f).HeldFields := by
  unfold State.hold
  dsimp only
  split
  case h_1 at_word => rw [at_word]; exact { h with link := extractLsb'_and_eq_zero rfl f.2 }
  case h_2 at_word => rw [at_word]; exact { h with watch := extractLsb'_and_eq_zero rfl f.2 }
  case h_3 at_word => rw [at_word]; exact { h with span := extractLsb'_and_eq_zero rfl f.2 }
  case h_4 at_word => rw [at_word]; exact { h with feed := extractLsb'_and_eq_zero rfl f.2 }
  case h_11 => split <;> exact h.of_eq rfl
  all_goals exact h.of_eq rfl

theorem State.HeldFields.phaseEffect (h : s.HeldFields) (p : Phase) (bad : List FailedWord) :
    (s.phaseEffect p bad).HeldFields := by
  cases p with
  | s1 => exact State.foldl_hold_keeps State.HeldFields.hold s bad h
  | _ => exact h.of_eq rfl

theorem State.HeldFields.effects : State.EffectsKeep State.HeldFields where
  write r u h := by
    unfold applyWrite
    split
    · exact h.of_eq rfl
    · exact State.writeFrom_keeps State.HeldFields.writeWord u _ _ h
  setId _ _ h := h.of_eq rfl
  drain r u h := by unfold applyDrain; split <;> exact h.of_eq rfl
  startRun _ _ h := h.of_eq rfl
  stopRun r u h := by
    unfold applyStopRun State.stopNow State.stopAtFrame
    split_ifs <;> exact h.of_eq (by simp [State.heldWords, Lane.leave])
  enterQuiet r u h := by unfold applyEnterQuiet; split <;> exact h.of_eq rfl
  softReset r u h := by
    unfold applySoftReset
    split
    · exact h.reset _
    · exact h
  runSelftest _ _ h := h.of_eq rfl
  commit r u h := by
    unfold applyCommit State.holdCommit
    dsimp only
    split_ifs <;> exact h.of_eq rfl
  discardStaged _ _ h := h.of_eq rfl
  clearMute _ _ h := h.of_eq rfl
  logReset _ _ h := h.of_eq rfl

theorem State.HeldFields.verdicts : State.VerdictKeeps State.HeldFields where
  rx _ _ h := h.of_eq rfl
  remember u r h := by unfold State.remember; split <;> exact h.of_eq rfl
  checkFailed _ _ h := h.of_eq rfl
  validation u hd h := h.of_eq (by simp [State.heldWords])
  opening u hd h := h.of_eq (by simp [State.heldWords])
  ignored _ _ _ h := h.of_eq rfl
  missed _ h := h.of_eq rfl

/-- A message leaves FEED_CFG and SPAN_VALUE. -/
theorem State.takeMessage_cap_words (s : State) (feed : BitVec 2) (bits : BitVec 25) :
    (s.takeMessage feed bits).cap.span = s.cap.span ∧ (s.takeMessage feed bits).cap.feedCfg = s.cap.feedCfg := by
  unfold State.takeMessage State.claimMessage
  split_ifs
  · exact ⟨rfl, rfl⟩
  · exact ⟨rfl, rfl⟩
  · exact ⟨rfl, rfl⟩
  · dsimp only
    split <;> simp [Capture.setChannel]

theorem Lane.fail_watchCfg (l : Lane) (k : LaneFault) (b i : Nat) : (l.fail k b i).watchCfg = l.watchCfg := by
  unfold Lane.fail
  dsimp only
  split <;> rfl

/-- A marker leaves FRAME_WATCH as held. -/
theorem State.takeMarker_watchCfg (s : State) (n : BitVec 16) :
    (s.takeMarker n).lane.watchCfg = s.lane.watchCfg := by
  have recorded : (s.recordMarker n).lane.watchCfg = s.lane.watchCfg := by
    unfold State.recordMarker; dsimp only; split <;> rfl
  have judged : (s.recordMarker n).completeness.lane.watchCfg = s.lane.watchCfg := by
    unfold State.completeness
    split
    · rw [State.laneFault_lane, Lane.fail_watchCfg, recorded]
    · exact recorded
  unfold State.takeMarker
  dsimp only
  split_ifs
  · rfl
  · simp [Lane.leave]
  · simpa [Lane.leave] using judged
  · simpa [Lane.beginFrame] using judged

/-- A tick leaves FRAME_WATCH as held. -/
theorem State.takeTick_watchCfg (s : State) (ltag : BitVec 6) :
    (s.takeTick ltag).lane.watchCfg = s.lane.watchCfg := by
  have extra : s.releaseSlot.extraTick.lane.watchCfg = s.lane.watchCfg := by
    unfold State.extraTick
    dsimp only
    split
    · rfl
    · simp [Lane.fail_watchCfg, State.releaseSlot]
  unfold State.takeTick
  split
  · rfl
  split
  · simp [Lane.leave]
  split
  · rfl
  · rfl
  · split
    · unfold State.walkEntry State.driveSlot
      dsimp only
      split
      · split
        · simp [State.loseSlot, Lane.fail_watchCfg, State.releaseSlot, Lane.walkOn]
        · rfl
      · rfl
    · exact extra
  · exact extra

/-- A tick leaves FEED_CFG and SPAN_VALUE. -/
theorem State.takeTick_cap_words (s : State) (ltag : BitVec 6) :
    (s.takeTick ltag).cap.span = s.cap.span ∧ (s.takeTick ltag).cap.feedCfg = s.cap.feedCfg := by
  have extra : s.releaseSlot.extraTick.cap = s.cap := by
    unfold State.extraTick
    dsimp only
    split
    · rfl
    · simp [State.releaseSlot]
  unfold State.takeTick
  split
  · exact ⟨rfl, rfl⟩
  split
  · simp
  split
  · exact ⟨rfl, rfl⟩
  · exact ⟨rfl, rfl⟩
  · split
    · unfold State.walkEntry State.driveSlot
      dsimp only
      split
      · split
        · simp [State.loseSlot, State.releaseSlot]
        · unfold State.placeWord Capture.place
          dsimp only
          split <;> exact ⟨rfl, rfl⟩
      · exact ⟨rfl, rfl⟩
    · simp [extra]
  · simp [extra]

theorem State.HeldFields.leaveReset {v : State} (h : v.HeldFields) (mid : BitVec 4) : (v.tryLeaveReset mid).HeldFields := by
  rcases v.tryLeaveReset_cases mid with ⟨-, -, e⟩ | ⟨-, e⟩ <;> rw [e]
  · exact h.of_eq rfl
  · exact h

theorem State.Act.keeps_heldFields {t : State} (act : s.Act t) (h : s.HeldFields) : t.HeldFields := by
  cases act with
  | judge c r => exact State.judge_keeps State.HeldFields.verdicts (State.HeldFields.effects.effectOf c r) r h
  | endPhase failed =>
    rcases s.endPhaseIfDone_cases failed with ⟨-, -, e⟩ | ⟨-, e⟩ <;> rw [e]
    · refine State.HeldFields.phaseEffect ?_ _ _
      exact h.of_eq rfl
    · exact h
  | expireWatch => rcases s.expireWatch_cases with ⟨-, -, e⟩ | ⟨-, e⟩ <;> rw [e] <;> exact h.of_eq rfl
  | endUnit m =>
    refine h.of_eq ?_
    simp only [State.heldWords, State.endUnit_link, State.endUnit_lane, State.endUnit_cap, State.countUnit_link,
      State.countUnit_lane, State.countUnit_cap]
    split <;> rfl
  | endReply r =>
    rcases s.endReply_cases r with ⟨-, e⟩ | ⟨-, e⟩ | ⟨-, e⟩ <;> rw [e]
    · exact h.of_eq rfl
    · exact h.of_eq rfl
    · exact (h.of_eq (t := s.withRx .listen) rfl).reset _
  | countBeacon =>
    have counted : { s with link := { s.link with beacons := satInc s.link.beacons } }.HeldFields := h.of_eq rfl
    rcases s.countBeacon_cases with ⟨-, e⟩ | ⟨-, e⟩ <;> rw [e]
    · exact counted.reset _
    · exact counted
  | endCauses u mid =>
    rcases s.endCauses_cases u mid with ⟨-, e⟩ | ⟨-, -, e⟩ <;> rw [e]
    · refine (State.HeldFields.leaveReset ?_ mid).of_eq rfl
      exact h.of_eq rfl
    · exact h
  | endRun short => rcases s.endRun_cases with ⟨-, -, -, e⟩ | ⟨-, -, e⟩ | e <;> rw [e] <;> exact h.of_eq rfl
  | cutShort => rcases s.cutShort_cases with ⟨r, n, -, e⟩ | ⟨-, e⟩ <;> rw [e] <;> exact h.of_eq rfl
  | beginRequest => unfold State.beginRequest; split <;> exact h.of_eq rfl
  | judgeHeader o n => unfold State.judgeHeader; split_ifs <;> exact h.of_eq rfl
  | pinReset power =>
    have low : { s with
        ctl := { s.ctl with rstnLow := true, softStep := if power then none else s.ctl.softStep }
        link := { s.link with beacons := if power then 0 else s.link.beacons } }.HeldFields := h.of_eq rfl
    exact low.reset _
  | pinRelease mid =>
    unfold State.pinRelease
    split
    · refine State.HeldFields.leaveReset ?_ mid
      exact h.of_eq rfl
    · exact h
  | takeMessage feed bits =>
    have := s.takeMessage_cap_words feed bits
    exact h.of_eq (by simp [State.heldWords, this])
  | takeMarker number => exact h.of_eq (by simp [State.heldWords, s.takeMarker_watchCfg])
  | takeTick ltag =>
    have := s.takeTick_cap_words ltag
    exact h.of_eq (by simp [State.heldWords, s.takeTick_watchCfg, this])
  | writerStep | completeOpen b => exact h.of_eq (by simp [State.heldWords])
  | now m | alert low | advance | clash detail | chi level | resync f => exact h.of_eq rfl

end

/-! ## The statement -/

/-- EVENT_ENABLE and ALERT_ENABLE hold their fields only (R147). -/
def Events.FieldBits (e : Events) : Prop :=
  e.enable.getLsbD 0 = false ∧ e.enable.extractLsb' 19 13 = 0 ∧ e.alert.extractLsb' 19 13 = 0

theorem Events.fieldBits_kept : Events.Kept Events.FieldBits where
  push e _ _ _ _ h := by simpa [Events.FieldBits] using h
  alertn _ _ h := h
  reset e k h := by
    cases k with
    | soft => exact h
    | _ =>
      change (0x0007FF7A : Word).getLsbD 0 = false ∧ (0x0007FF7A : Word).extractLsb' 19 13 = 0 ∧
        (0 : Word).extractLsb' 19 13 = 0
      decide
  enable _ w h := ⟨getLsbD_and_eq_false rfl w, extractLsb'_and_eq_zero rfl w, h.2.2⟩
  alert _ w h := ⟨h.1, h.2.1, extractLsb'_and_eq_zero rfl w⟩
  retire _ _ h := h

/-- The registers, block by block. -/
theorem State.fieldsOnly_iff (s : State) :
    s.FieldsOnly ↔ s.HeldFields ∧ s.stl.FieldBits ∧ s.evu.FieldBits ∧ s.Channels Channel.FieldBits := by
  rw [State.channels_iff Channel.fieldBits_kept.initial]
  constructor
  · rintro ⟨⟨link, watch⟩, ⟨span, feed⟩, log, enables, records⟩
    exact ⟨⟨link, watch, span, feed⟩, log, enables, records⟩
  · rintro ⟨⟨link, watch, span, feed⟩, log, enables, records⟩
    exact ⟨⟨link, watch⟩, ⟨span, feed⟩, log, enables, records⟩

/-- Settles O6: every act keeps the event unit (`Events.Kept`), the channels (`Channel.Kept`), the store and log
(`Store.Kept`) and the registers with stored fields sound. -/
theorem queuesAndSamplesStaySound : Obligations.QueuesAndSamplesStaySound := by
  intro s t step
  refine ⟨step_keeps (P := fun s => s.evu.Consistent) (fun _ _ h => h) (fun _ _ act => Events.consistent_kept.act act) step,
    fun h => ?samples, step_keeps (P := fun s => s.stl.QueueFits) (fun _ _ h => h) (fun _ _ act => Store.queueFits_kept.act act)
      step,
    fun h => ?fields⟩
  case samples =>
    have apart := (State.channels_iff Channel.apart_kept.initial s).2 h
    exact (State.channels_iff Channel.apart_kept.initial t).1
      (step_keeps (fun _ _ h => h.of_cap rfl) (fun _ _ act => Channel.apart_kept.act act) step apart)
  case fields =>
    obtain ⟨held, log, enables, records⟩ := s.fieldsOnly_iff.1 h
    exact t.fieldsOnly_iff.2
      ⟨step_keeps (fun _ _ h => h.of_eq rfl) (fun _ _ act => act.keeps_heldFields) step held,
        step_keeps (P := fun s => s.stl.FieldBits) (fun _ _ h => h) (fun _ _ act => Store.fieldBits_kept.act act) step log,
        step_keeps (P := fun s => s.evu.FieldBits) (fun _ _ h => h) (fun _ _ act => Events.fieldBits_kept.act act) step enables,
        step_keeps (fun _ _ h => h.of_cap rfl) (fun _ _ act => Channel.fieldBits_kept.act act) step records⟩

end Sys2Proof.Machine
end

section
/-! SUPPORT. The queue of commands, the order of the events of an instant, the state after power is applied, and NODE_ID: O1
to O4, O10. -/

namespace Sys2Proof.Machine

set_option Elab.async false

open Sys2Proof (Instr LinkUnit Bank Block)

/-! ## The queue -/

/-- Settles O1: `step` looks at the queue first; `State.idle` says what an empty queue brings. -/
theorem stepRunsFrontCommand : Obligations.StepRunsFrontCommand := by
  refine ⟨fun _ _ _ => rfl, fun s empty => ?_⟩
  have alone : step s = .next s.idle := by unfold step; rw [empty]
  refine ⟨fun isOpen => ?_, fun shut stalls => ?_, fun shut goesOn => ?_⟩
  · rw [alone, State.idle, if_pos (Option.isSome_iff_ne_none.2 isOpen)]
  all_goals
    have waits : s.forUnit = s := by simp [State.forUnit, State.close, shut]
    have idles : s.idle = s.passUnit s.freeMid := by simp [State.idle, shut]
  · rw [alone, idles, State.passUnit, waits, if_pos stalls]
  · rw [alone, idles, State.passUnit, waits, goesOn]
    rfl

/-- No act touches the commands that wait. -/
theorem State.Act.pending_eq {s t : State} (act : s.Act t) : t.pending = s.pending := by
  cases act with
  | judge c r =>
    have verdicts : State.VerdictKeeps (fun u => u.pending = s.pending) := by constructor <;> simp
    have word (u : State) (a : Nat) (w : Word) (h : u.pending = s.pending) :
        (u.writeWord a w).pending = s.pending := by
      unfold State.writeWord State.writeRegister
      repeat' split
      all_goals exact h
    have effects : State.EffectsKeep (fun u => u.pending = s.pending) := by
      constructor
      case write =>
        intro r u h
        unfold applyWrite
        split
        · exact h
        · exact State.writeFrom_keeps (P := fun u => u.pending = s.pending) word u _ _ h
      all_goals
        simp +contextual [applySetId, applyDrain, applyStartRun, applyStopRun, State.stopNow, State.stopAtFrame,
          applyEnterQuiet, applySoftReset, applyRunSelftest, applyCommit, State.holdCommit, applyDiscardStaged,
          applyClearMute, applyLogReset, apply_ite State.pending]
    exact State.judge_keeps verdicts (effects.effectOf c r) r rfl
  | endPhase failed =>
    have held (u : State) (f : FailedWord) (h : u.pending = s.pending) : (u.hold f).pending = s.pending := by
      unfold State.hold
      dsimp only
      repeat' split
      all_goals exact h
    rcases s.endPhaseIfDone_cases failed with ⟨-, -, e⟩ | ⟨-, e⟩ <;> rw [e]
    unfold State.endPhase
    cases s.ste.phase with
    | s1 => exact State.foldl_hold_keeps (P := fun u => u.pending = s.pending) held _ _ rfl
    | _ => rfl
  | endReply r => rcases s.endReply_cases r with ⟨-, e⟩ | ⟨-, e⟩ | ⟨-, e⟩ <;> (rw [e]; rfl)
  | countBeacon => rcases s.countBeacon_cases with ⟨-, e⟩ | ⟨-, e⟩ <;> simp [e]
  | endCauses u mid => rcases s.endCauses_cases u mid with ⟨-, e⟩ | ⟨-, -, e⟩ <;> simp [e]
  | cutShort => rcases s.cutShort_cases with ⟨r, n, -, e⟩ | ⟨-, e⟩ <;> (rw [e]; rfl)
  | judgeHeader o k => unfold State.judgeHeader; split_ifs <;> rfl
  | pinRelease mid => unfold State.pinRelease; split <;> simp
  | takeMessage feed bits =>
    simp [State.takeMessage, State.parityFailed, State.unclaimedMessage, State.claimMessage, apply_ite State.pending]
  | takeMarker number =>
    have commit (u : State) : (u.commitAtMarker number).pending = u.pending := by
      unfold State.commitAtMarker
      repeat' split
      all_goals simp
    simp [State.takeMarker, State.recordMarker, State.completeness, apply_ite State.pending, commit]
  | takeTick ltag =>
    have drive (u : State) (c : Nat) : (u.driveSlot c ltag).pending = u.pending := by
      unfold State.driveSlot State.loseSlot State.placeWord
      split <;> simp
    have walked : s.releaseSlot.pending = s.pending := rfl
    unfold State.takeTick State.walkEntry State.extraTick
    dsimp only
    repeat' split
    all_goals simp [drive, walked]
  | writerStep | completeOpen b | expireWatch | endRun short | beginRequest => simp
  | now m | alert low | endUnit m | advance | clash detail | pinReset power | chi level | resync f => rfl

/-- A request row has an outcome in every state. -/
theorem State.takeRequest_next (s : State) (belongs : Header → Bool) (b : Block) (apply : Request → State → State) :
    ∃ t, s.takeRequest belongs b apply = .next t := by
  rcases s.takeRequest_cases belongs b apply with e | ⟨r, -, -, -, e⟩ <;> exact ⟨_, e⟩

theorem next_ite (c : Prop) [Decidable c] (x y : State) : ∃ t, (if c then .next x else .next y : Result) = .next t := by
  split <;> exact ⟨_, rfl⟩

/-- Every command has an outcome. -/
theorem exec_next (c : Instr) (s : State) : ∃ t, exec c s = .next t := by
  cases hb : rowBlock c with
  | some b =>
    obtain ⟨belongs, -, e⟩ := exec_eq_takeRequest hb
    rw [e]
    exact State.takeRequest_next ..
  | none =>
    cases c <;> simp only [rowBlock, reduceCtorEq] at hb
    case headerReceived o =>
      change ∃ t, execHeaderReceived o s = .next t
      unfold execHeaderReceived
      split <;> exact ⟨_, rfl⟩
    case replyClash bit =>
      change ∃ t, execReplyClash bit s = .next t
      unfold execReplyClash
      split
      · exact next_ite ..
      · exact ⟨_, rfl⟩
    case softResetStepDone mid =>
      change ∃ t, execSoftResetStepDone mid s = .next t
      unfold execSoftResetStepDone
      split <;> exact ⟨_, rfl⟩
    case pageOpenDone b =>
      change ∃ t, execPageOpenDone b s = .next t
      unfold execPageOpenDone
      split <;> exact ⟨_, rfl⟩
    case startUnit mid | beaconUnit | pinReset power | pinResetRelease mid | chiChange level | feedMessage feed bits
        | frameMarker n | slotTick ltag => exact ⟨_, rfl⟩
    all_goals exact next_ite ..

/-- Settles O2: every command has an outcome, and it takes acts, none of which touches the queue. -/
theorem execAnswersAndKeepsQueue : Obligations.ExecAnswersAndKeepsQueue := by
  intro c s
  obtain ⟨t, e⟩ := exec_next c s
  exact ⟨t, e, (exec_acts e).keep (P := fun u => u.pending = s.pending) (fun _ _ act h => act.pending_eq.trans h) rfl⟩

/-! ## The order of the events of an instant -/

theorem State.insertEvent_perm (s : State) (c : Instr) (ds : List Instr) : (s.insertEvent c ds).Perm (c :: ds) := by
  induction ds with
  | nil => exact .refl _
  | cons d ds ih =>
    unfold State.insertEvent
    split
    · exact .refl _
    · exact (ih.cons d).trans (.swap c d ds)

theorem State.inOrder_perm (s : State) (cs : List Instr) : (s.inOrder cs).Perm cs := by
  induction cs with
  | nil => exact .refl _
  | cons c cs ih => exact (s.insertEvent_perm c _).trans (ih.cons c)

theorem State.insertEvent_pairwise (s : State) (c : Instr) {ds : List Instr}
    (h : ds.Pairwise fun a b => s.place a ≤ s.place b) :
    (s.insertEvent c ds).Pairwise fun a b => s.place a ≤ s.place b := by
  induction ds with
  | nil => simp [State.insertEvent]
  | cons d ds ih =>
    obtain ⟨first, rest⟩ := List.pairwise_cons.1 h
    unfold State.insertEvent
    split
    · rename_i before
      refine List.pairwise_cons.2 ⟨fun b hb => ?_, h⟩
      rcases List.mem_cons.1 hb with rfl | hb
      · exact before
      · exact before.trans (first b hb)
    · rename_i after
      refine List.pairwise_cons.2 ⟨fun b hb => ?_, ih rest⟩
      rcases List.mem_cons.1 ((s.insertEvent_perm c ds).mem_iff.1 hb) with rfl | hb
      · omega
      · exact first b hb

theorem State.inOrder_pairwise (s : State) (cs : List Instr) :
    (s.inOrder cs).Pairwise fun a b => s.place a ≤ s.place b := by
  induction cs with
  | nil => exact .nil
  | cons c cs ih => exact s.insertEvent_pairwise c ih

/-- An event belongs to the open instant when its place comes after what has been taken there (R60). -/
theorem Moment.admits_iff (m : Moment) (p : Nat) :
    m.admits p = true ↔ (m.place < p ∨ (m.place = 70 ∧ p = 70)) ∧ ¬(m.marker = true ∧ p = 50) := by
  cases hm : m.marker <;> simp [Moment.admits, hm]

theorem State.reach_of_admits {s : State} {m : Moment} {p : Nat} (h : s.now = some m) (admits : m.admits p = true) :
    s.reach p = { s.takeOwn p with now := some { m with place := p } } := by
  rcases s.reach_cases p with ⟨n, hn, -, e⟩ | ⟨none, -⟩
  · rw [h] at hn
    cases hn
    exact e
  · exact absurd (none m h) (by simp [admits])

theorem State.reach_of_new {s : State} {p : Nat} (h : ∀ m, s.now = some m → m.admits p = false) :
    s.reach p = { s.close with now := some (Moment.fresh p) } := by
  rcases s.reach_cases p with ⟨n, hn, admits, -⟩ | ⟨-, e⟩
  · exact absurd (h n hn) (by simp [admits])
  · exact e

theorem State.close_of_shut {s : State} (h : s.now = none) : s.close = s := by simp [State.close, h]

/-- Settles O3: insertion puts the commands in the order of their places; `takeOwn`, `close` and `reach` take the node's own
events in that order. -/
theorem instantInFixedOrder : Obligations.InstantInFixedOrder := by
  refine ⟨fun s cs => ⟨s.inOrder_perm cs, s.inOrder_pairwise cs, rfl⟩, ?places, fun s => ?own⟩
  case places =>
    intro s level power n m b f g ltag bad mid run channels
    have beacon : s.place .beaconUnit = 10 := by simp [State.place, State.unitPlace, run]
    have ends : s.place (.beaconRunEnd .idle mid) = 13 ∨ s.place (.beaconRunEnd .idle mid) = 20 := by
      simp only [State.place, State.unitPlace, run]
      split_ifs <;> simp_all
    have late : g.toNat < 4 := g.isLt
    simp only [beacon]
    have others : s.place (.chiChange level) = 0 ∧ s.place (.pinReset power) = 11 ∧ s.place (.frameMarker n) = 30 ∧
        s.place (.feedMessage f m) = 40 + f.toNat ∧ s.place (.feedMessage g b) = 40 + g.toNat ∧
        s.place (.slotTick ltag) = 50 ∧ s.place .logWriterStep = 60 ∧ s.place .read = 70 ∧
        s.place (.pageOpenDone .bank0) = 80 ∧ s.place (.pageOpenDone .bank1) = 81 ∧ s.place .frameWatchExpiry = 82 ∧
        s.place (.selftestPhaseEnd bad) = 83 := ⟨rfl, rfl, rfl, rfl, rfl, rfl, rfl, rfl, rfl, rfl, rfl, rfl⟩
    obtain ⟨h1, h2, h3, h4, h5, h6, h7, h8, h9, h10, h11, h12⟩ := others
    rw [h1, h2, h3, h4, h5, h6, h7, h8, h9, h10, h11, h12]
    simp only [List.pairwise_cons, List.mem_cons, List.not_mem_nil, or_false, List.Pairwise.nil, forall_eq_or_imp,
      forall_eq, and_true, false_imp_iff, implies_true]
    omega
  case own =>
    refine ⟨fun p hp => s.takeOwn_early hp, s.takeOwn_seventy, rfl, s.takeOwn_all, State.close_of_shut,
      fun isOpen => ?_, fun p => ⟨fun shut => ?_, fun m hm => ⟨fun after apart => ?_, fun before => ?_⟩⟩⟩
    · rcases s.close_cases with ⟨shut, -⟩ | ⟨m, -, e⟩
      · exact absurd shut isOpen
      · exact ⟨_, e, (s.takeOwn 90).alertLow_iff⟩
    · rw [State.reach_of_new (by simp [shut]), State.close_of_shut shut]
      rfl
    · exact State.reach_of_admits hm ((m.admits_iff p).2 ⟨after, apart⟩)
    · refine State.reach_of_new fun n hn => ?_
      obtain rfl : m = n := Option.some.inj (hm.symm.trans hn)
      rw [← Bool.not_eq_true, m.admits_iff]
      rintro ⟨after, apart⟩
      rcases before with early | ⟨same, notLink⟩ | meets
      · omega
      · omega
      · exact apart meets

/-! ## After power is applied -/

@[simp] theorem Capture.feed_reset (f : Nat) : Capture.reset.feed f = Feed.initial := by
  by_cases h : f < 4 <;> simp [Capture.feed, Capture.reset, h]

theorem State.reset_cap : State.reset.cap = Capture.reset := rfl

theorem State.reset_resetTo : State.ResetTo .powerPin State.reset State.reset where
  mode := ⟨rfl, rfl, rfl⟩
  ident := ⟨rfl, rfl⟩
  link := ⟨rfl, rfl, rfl, rfl, rfl, rfl, rfl, rfl⟩
  feeds := ⟨rfl, rfl, fun f _ => by rw [State.reset_cap, Capture.feed_reset]; exact ⟨rfl, rfl, rfl⟩⟩
  channels c _ := by rw [State.reset_cap, Capture.channel_reset]; exact ⟨rfl, rfl, rfl, rfl⟩
  tables := ⟨rfl, by decide, rfl, rfl⟩
  lane := ⟨⟨rfl, rfl, rfl, rfl, rfl, rfl, rfl, rfl, rfl⟩, rfl, rfl, by decide, rfl, rfl⟩
  store := ⟨rfl, rfl, rfl, rfl, rfl, rfl, rfl, rfl, rfl, rfl, rfl, rfl, rfl, rfl⟩
  events := ⟨rfl, rfl, rfl, rfl, rfl, rfl⟩
  test := ⟨rfl, rfl⟩
  user := rfl
  pending := rfl

theorem State.reset_fieldsOnly : State.reset.FieldsOnly where
  bytes := by decide
  capture := by decide
  log := by decide
  enables := by decide
  records c _ := by
    rw [State.reset_cap, Capture.channel_reset]
    exact Channel.fieldBits_kept.initial

theorem State.reset_modesConsistent : State.reset.ModesConsistent where
  listening _ := rfl
  held := ⟨fun _ => rfl, fun _ => rfl⟩
  unnamed _ := rfl
  empty _ := ⟨rfl, rfl, rfl, rfl, rfl⟩
  testing := by decide
  ending := trivial
  atRest _ := ⟨⟨rfl, rfl, rfl, rfl, rfl, rfl, rfl, rfl, rfl⟩, rfl, rfl⟩
  running := fun running => absurd running (by decide)

/-- Settles O4: field by field; in RESET there is no table to be valid, and the log is off. -/
theorem resetStateHolds : Obligations.ResetStateHolds := by
  refine ⟨State.reset_resetTo, rfl, rfl, rfl, rfl, rfl, ⟨Nat.zero_le _, fun _ h => absurd h (Nat.not_lt_zero _)⟩,
    Nat.zero_le _, fun c _ => ?_, State.reset_fieldsOnly, State.reset_modesConsistent,
    fun running => absurd running (by decide),
    ⟨fun _ => ?_, fun test => absurd test (by decide), fun queued => absurd rfl queued⟩⟩
  · rw [State.reset_cap, Capture.channel_reset]
    exact Channel.apart_kept.initial
  · exact ⟨rfl, rfl, rfl, rfl⟩

/-! ## NODE_ID -/

/-- Settles O10, from all that a command can do to NODE_ID (`exec_ident_cases`). -/
theorem nodeIdChangesOnlyAsStated : Obligations.NodeIdChangesOnlyAsStated := by
  intro c s t h changed
  rcases exec_ident_cases h with kept | ⟨level, rfl⟩ | ⟨b, rfl, -⟩ | reset
  · exact absurd (congrArg Ident.nodeId kept) changed
  · obtain rfl := Host.Outcome.next.inj h
    exact absurd (by simp) changed
  · exact .inl ⟨b, rfl⟩
  · exact .inr ⟨congrArg Ident.nodeId reset.ident, reset.mode, reset.cause⟩

end Sys2Proof.Machine
end

section
/-! SUPPORT. The bits of a word made of fields, and what the status words and windows show (O32, O33). -/

namespace Sys2Proof.Machine

set_option Elab.async false

open Sys2Proof (Word)

/-! ## Words made of fields -/

section
variable {n : Nat}

theorem getLsbD_fieldAt (k : Nat) (x : BitVec n) (j : Nat) :
    (fieldAt k x).getLsbD j = (decide (j < 32) && decide (k ≤ j) && x.getLsbD (j - k)) := by
  by_cases hk : k ≤ j
  · by_cases hj : j < 32
    · simp [fieldAt, hk, hj, Nat.not_lt.2 hk]
    · rw [BitVec.getLsbD_of_ge _ _ (by omega)]
      simp [hj]
  · simp [fieldAt, hk]

/-- A field reads back from its place. -/
@[simp] theorem extractLsb'_fieldAt_same {k : Nat} (h : k + n ≤ 32) (x : BitVec n) : (fieldAt k x).extractLsb' k n = x := by
  ext i hi
  rw [BitVec.getElem_extractLsb', getLsbD_fieldAt]
  simp [show k + i < 32 by omega, BitVec.getLsbD_eq_getElem hi]

/-- A field leaves no trace where it does not stand. -/
@[simp] theorem extractLsb'_fieldAt_apart {k j m : Nat} (h : j + m ≤ k ∨ k + n ≤ j) (x : BitVec n) :
    (fieldAt k x).extractLsb' j m = 0 := by
  ext i hi
  rw [BitVec.getElem_extractLsb', getLsbD_fieldAt]
  rcases h with h | h
  · simp [show ¬k ≤ j + i by omega]
  · simp [BitVec.getLsbD_of_ge x (j + i - k) (by omega)]

@[simp] theorem getLsbD_fieldAt_apart {k j : Nat} (h : j < k ∨ k + n ≤ j) (x : BitVec n) :
    (fieldAt k x).getLsbD j = false := by
  rw [getLsbD_fieldAt]
  rcases h with h | h
  · simp [show ¬k ≤ j by omega]
  · simp [BitVec.getLsbD_of_ge x (j - k) (by omega)]

@[simp] theorem getLsbD_flagAt_same {k : Nat} (h : k < 32) (b : Bool) : (flagAt k b).getLsbD k = b := by
  rw [flagAt, getLsbD_fieldAt]
  simp [h]

@[simp] theorem getLsbD_flagAt_apart {k j : Nat} (h : j < k ∨ k + 1 ≤ j) (b : Bool) : (flagAt k b).getLsbD j = false :=
  getLsbD_fieldAt_apart h _

@[simp] theorem extractLsb'_flagAt_apart {k j m : Nat} (h : j + m ≤ k ∨ k + 1 ≤ j) (b : Bool) :
    (flagAt k b).extractLsb' j m = 0 :=
  extractLsb'_fieldAt_apart h _

@[simp] theorem extractLsb'_natAt_same {k : Nat} (h : k + n ≤ 32) (v : Nat) :
    (natAt n k v).extractLsb' k n = BitVec.ofNat n v :=
  extractLsb'_fieldAt_same h _

@[simp] theorem extractLsb'_natAt_apart {k j m : Nat} (h : j + m ≤ k ∨ k + n ≤ j) (v : Nat) :
    (natAt n k v).extractLsb' j m = 0 :=
  extractLsb'_fieldAt_apart h _

@[simp] theorem getLsbD_natAt_apart {k j : Nat} (h : j < k ∨ k + n ≤ j) (v : Nat) : (natAt n k v).getLsbD j = false :=
  getLsbD_fieldAt_apart h _

/-- Two fields side by side are one. -/
theorem fieldAt_append {m : Nat} (k : Nat) (x : BitVec n) (y : BitVec m) :
    fieldAt k (x ++ y) = fieldAt k y ||| fieldAt (k + m) x := by
  refine BitVec.eq_of_getLsbD_eq fun j hj => ?_
  simp only [BitVec.getLsbD_or, getLsbD_fieldAt, BitVec.getLsbD_append, hj, decide_true, Bool.true_and]
  by_cases hk : k ≤ j
  · by_cases hm : j - k < m
    · simp [hk, hm, show ¬k + m ≤ j by omega]
    · simp [hk, hm, show k + m ≤ j by omega, BitVec.getLsbD_of_ge y (j - k) (by omega), Nat.sub_sub]
  · simp [hk, show ¬k + m ≤ j by omega]

/-- A field with nothing in it. -/
@[simp] theorem fieldAt_zero (k : Nat) : fieldAt k (0#n) = 0#32 := by
  refine BitVec.eq_of_getLsbD_eq fun j hj => ?_
  simp [getLsbD_fieldAt]

/-- A whole word is its own field. -/
@[simp] theorem fieldAt_whole (w : Word) : fieldAt 0 w = w := by
  refine BitVec.eq_of_getLsbD_eq fun j hj => ?_
  rw [getLsbD_fieldAt]
  simp [hj]

end


/-! ## The registers -/

/-- Each 8-bit counter of LINK_STATUS in its byte (R26). -/
theorem Link.statusWord_eq (l : Link) :
    l.statusWord = l.bcastMissed ++ l.clashes ++ l.dataErrors ++ l.headerErrors := by
  rw [← fieldAt_whole (_ ++ _), fieldAt_append, fieldAt_append, fieldAt_append, Link.statusWord]
  simp only [BitVec.or_assoc, Nat.reduceAdd]

/-- An 8-bit counter above another in the low half of a word (R68). -/
theorem Feed.statusWord_eq (f : Feed) : f.statusWord = 0#16 ++ f.unclaimed ++ f.parityErrors := by
  rw [← fieldAt_whole (_ ++ _), fieldAt_append, fieldAt_append, Feed.statusWord]
  simp only [fieldAt_zero, BitVec.or_zero, Nat.reduceAdd]

theorem Store.lossWord_eq (t : Store) : t.lossWord = t.overwritten ++ t.dropped := by
  rw [← fieldAt_whole (_ ++ _), fieldAt_append, Store.lossWord]

theorem Lane.faultFrameWord_eq (l : Lane) : l.faultFrameWord = l.frame ++ l.fault.frame := by
  rw [← fieldAt_whole (_ ++ _), fieldAt_append, Lane.faultFrameWord]

theorem fieldAt_setWidth {n : Nat} (x : BitVec n) : fieldAt 0 x = x.setWidth 32 := BitVec.shiftLeft_zero _

theorem Tables.commitWord_eq (t : Tables) :
    t.commitWord =
      match t.commit with
      | some c => 0#13 ++ BitVec.ofBool c.late ++ 1#1 ++ BitVec.ofBool c.targeted ++ c.target
      | none => 0 := by
  unfold Tables.commitWord
  cases t.commit with
  | none => rfl
  | some c =>
    dsimp only
    rw [← fieldAt_whole (_ ++ _), fieldAt_append, fieldAt_append, fieldAt_append, fieldAt_append]
    simp only [flagAt, fieldAt_zero, BitVec.or_zero, BitVec.or_assoc, show BitVec.ofBool true = 1#1 from rfl,
      Nat.reduceAdd]

/-- The registers that hold a word, a counter or a code as such (R14, R28, R29, R65, R68, R114, R118, R127, R131, R147, R162).
-/
theorem State.readWord_stored (s : State) :
    s.readWord 0x004 = s.link.cfg ∧ s.readWord 0x00D = s.lane.watchCfg ∧ s.readWord 0x00E = s.cap.span ∧
      s.readWord 0x010 = s.cap.feedCfg ∧ s.readWord 0x018 = s.stl.cfg ∧ s.readWord 0x019 = s.stl.watermark ∧
      s.readWord 0x01B = s.stl.overwritten ++ s.stl.dropped ∧ s.readWord 0x01C = s.stl.serial ∧
      s.readWord 0x021 = s.evu.enable ∧ s.readWord 0x022 = s.evu.alert ∧
      ∀ f < 4, s.readWord (0x011 + f) = 0#16 ++ (s.cap.feed f).unclaimed ++ (s.cap.feed f).parityErrors := by
  refine ⟨rfl, rfl, rfl, rfl, rfl, rfl, s.stl.lossWord_eq, rfl, rfl, rfl, fun f hf => ?_⟩
  rw [← Feed.statusWord_eq]
  interval_cases f <;> rfl

/-- NODE_STATE, field by field (R53). -/
theorem State.nodeStateWord_fields (s : State) :
    s.nodeStateWord.extractLsb' 0 3 = BitVec.ofNat 3 s.ctl.mode.code ∧ s.nodeStateWord.getLsbD 3 = false ∧
      s.nodeStateWord.extractLsb' 4 2 = BitVec.ofNat 2 s.lane.sub.code ∧
      (s.nodeStateWord.getLsbD 6 = true ↔ s.ident.nodeId ≠ 0) ∧ s.nodeStateWord.getLsbD 7 = s.ident.chi ∧
      (s.nodeStateWord.getLsbD 8 = true ↔ s.ident.chi = true ∧ s.ident.nodeId ≠ 0) ∧
      s.nodeStateWord.getLsbD 9 = s.ctl.stop.isSome ∧
      (s.nodeStateWord.getLsbD 10 = true ↔ s.ctl.stop = some .atFrame) ∧
      s.nodeStateWord.getLsbD 11 = s.ctl.testPassed ∧
      s.nodeStateWord.extractLsb' 12 2 = BitVec.ofNat 2 s.ctl.resetCause.code ∧
      s.nodeStateWord.extractLsb' 14 18 = 0 := by
  unfold State.nodeStateWord
  simp only [BitVec.extractLsb'_or, BitVec.getLsbD_or]
  refine ⟨?_, ?_, ?_, ?_, ?_, ?_, ?_, ?_, ?_, ?_, ?_⟩ <;>
    simp [-BitVec.getLsbD_eq_getElem, Ident.named, Ident.cho]

/-- LAST_SEQ, field by field (R21). -/
theorem Link.lastSeqWord_fields (l : Link) :
    l.lastSeqWord.extractLsb' 0 4 = l.mem.seq ∧ l.lastSeqWord.extractLsb' 4 4 = 0 ∧
      l.lastSeqWord.getLsbD 8 = l.mem.valid ∧ l.lastSeqWord.extractLsb' 9 23 = 0 := by
  unfold Link.lastSeqWord
  simp only [BitVec.extractLsb'_or, BitVec.getLsbD_or]
  refine ⟨?_, ?_, ?_, ?_⟩ <;>
    simp [-BitVec.getLsbD_eq_getElem]

/-- EVENT_STATUS, field by field (R146). -/
theorem Events.statusWord_fields (e : Events) :
    e.statusWord.extractLsb' 0 5 = BitVec.ofNat 5 e.queue.length ∧ e.statusWord.extractLsb' 5 3 = 0 ∧
      e.statusWord.extractLsb' 8 8 = e.lost ∧ e.statusWord.getLsbD 16 = e.attention ∧
      e.statusWord.extractLsb' 17 7 = 0 ∧ e.statusWord.extractLsb' 24 8 = e.serial := by
  unfold Events.statusWord
  simp only [BitVec.extractLsb'_or, BitVec.getLsbD_or]
  refine ⟨?_, ?_, ?_, ?_, ?_, ?_⟩ <;>
    simp [-BitVec.getLsbD_eq_getElem]

/-- SELFTEST_DETAIL, field by field (R157). -/
theorem SelfTest.detailWord_fields (t : SelfTest) :
    t.detailWord.extractLsb' 0 6 = t.fails ∧ t.detailWord.extractLsb' 6 2 = 0 ∧
      t.detailWord.extractLsb' 8 3 = BitVec.ofNat 3 t.phase.code ∧ t.detailWord.extractLsb' 11 21 = 0 := by
  unfold SelfTest.detailWord
  simp only [BitVec.extractLsb'_or]
  refine ⟨?_, ?_, ?_, ?_⟩ <;>
    simp [-BitVec.getLsbD_eq_getElem]

/-- LANE_STATUS, field by field (R115). -/
theorem State.laneStatusWord_fields (s : State) :
    s.laneStatusWord.getLsbD 0 = s.lane.muted ∧ s.laneStatusWord.getLsbD 1 = s.lane.unmute ∧
      s.laneStatusWord.getLsbD 2 = s.sct.commit.isSome ∧
      (s.laneStatusWord.getLsbD 3 = true ↔ ∃ c, s.sct.commit = some c ∧ c.targeted = true ∧ c.late = false) ∧
      s.laneStatusWord.extractLsb' 4 2 = BitVec.ofNat 2 s.lane.sub.code ∧
      s.laneStatusWord.getLsbD 6 = s.lane.markerSeen ∧ s.laneStatusWord.getLsbD 7 = s.lane.watchExpired ∧
      s.laneStatusWord.extractLsb' 8 9 =
        (if s.ste.phase = .s1 ∨ s.ste.phase = .s2 then 0 else BitVec.ofNat 9 s.sct.active.length) ∧
      s.laneStatusWord.extractLsb' 17 9 = BitVec.ofNat 9 s.lane.slotIndex ∧
      s.laneStatusWord.getLsbD 26 = s.lane.inSlot ∧ s.laneStatusWord.getLsbD 27 = s.lane.shortSeen ∧
      s.laneStatusWord.extractLsb' 28 4 = 0 := by
  have waits : s.sct.commit.any Commit.waitsForTarget = true ↔
      ∃ c, s.sct.commit = some c ∧ c.targeted = true ∧ c.late = false := by
    simp [Option.any_eq_true, Commit.waitsForTarget]
  have length : BitVec.ofNat 9 s.laneLength =
      if s.ste.phase = .s1 ∨ s.ste.phase = .s2 then 0 else BitVec.ofNat 9 s.sct.active.length := by
    unfold State.laneLength
    split <;> rfl
  unfold State.laneStatusWord
  simp only [BitVec.extractLsb'_or, BitVec.getLsbD_or]
  refine ⟨?_, ?_, ?_, ?_, ?_, ?_, ?_, ?_, ?_, ?_, ?_, ?_⟩
  case refine_4 => rw [← waits]; simp [-BitVec.getLsbD_eq_getElem]
  case refine_8 => rw [← length]; simp
  all_goals simp [-BitVec.getLsbD_eq_getElem]

/-- LANE_FAULT, field by field (R110). -/
theorem Lane.faultWord_fields (l : Lane) :
    l.faultWord.extractLsb' 0 2 = BitVec.ofNat 2 l.fault.kind.code ∧
      l.faultWord.extractLsb' 2 3 = BitVec.ofNat 3 l.fault.lostBit ∧ l.faultWord.extractLsb' 5 3 = 0 ∧
      l.faultWord.extractLsb' 8 9 = BitVec.ofNat 9 l.fault.slot ∧ l.faultWord.extractLsb' 17 7 = 0 ∧
      l.faultWord.extractLsb' 24 8 = l.faultCount := by
  unfold Lane.faultWord
  simp only [BitVec.extractLsb'_or]
  refine ⟨?_, ?_, ?_, ?_, ?_, ?_⟩ <;>
    simp [-BitVec.getLsbD_eq_getElem]

/-- TABLE_CHECK, field by field (R83). -/
theorem TableCheck.word_fields (c : TableCheck) :
    c.word.extractLsb' 0 3 = BitVec.ofNat 3 c.result.code ∧ c.word.getLsbD 3 = c.ofActive ∧
      c.word.extractLsb' 4 4 = 0 ∧ c.word.extractLsb' 8 8 = BitVec.ofNat 8 c.index ∧
      c.word.extractLsb' 16 9 = BitVec.ofNat 9 c.length ∧ c.word.extractLsb' 25 7 = 0 := by
  unfold TableCheck.word
  simp only [BitVec.extractLsb'_or, BitVec.getLsbD_or]
  refine ⟨?_, ?_, ?_, ?_, ?_, ?_⟩ <;>
    simp [-BitVec.getLsbD_eq_getElem]

/-- Settles O32: each word by its own lemma; the codes are those the model writes out. -/
theorem statusWordsShowTheirFields : Obligations.StatusWordsShowTheirFields := by
  refine ⟨⟨rfl, rfl, rfl, rfl, rfl, rfl⟩, State.readWord_stored, fun s => ?node, fun s => ?lane⟩
  case node =>
    obtain ⟨mode, gap, sub, named, chi, cho, stop, atFrame, passed, cause, rest⟩ := s.nodeStateWord_fields
    obtain ⟨seq, seqGap, valid, seqRest⟩ := s.link.lastSeqWord_fields
    obtain ⟨depth, depthGap, lost, attention, flagGap, serial⟩ := s.evu.statusWord_fields
    obtain ⟨fails, failGap, phase, detailRest⟩ := s.ste.detailWord_fields
    exact ⟨rfl, rfl, fieldAt_setWidth _, mode, gap, sub, named, chi, cho, stop, atFrame, passed, cause, rest,
      s.link.statusWord_eq, seq, seqGap, valid, seqRest, fun _ => depth, depthGap, lost, attention, flagGap, serial, rfl,
      rfl, fails, failGap, phase, detailRest, fieldAt_setWidth _⟩
  case lane =>
    obtain ⟨muted, unmute, commit, target, sub, seen, expired, length, slot, inSlot, short, rest⟩ :=
      s.laneStatusWord_fields
    obtain ⟨kind, lostBit, gap, faultSlot, gap', count⟩ := s.lane.faultWord_fields
    obtain ⟨result, source, checkGap, index, checkLength, checkRest⟩ := s.sct.check.word_fields
    exact ⟨muted, unmute, commit, target, sub, seen, expired, length, slot, inSlot, short, rest, kind, lostBit, gap,
      faultSlot, gap', count, s.lane.faultFrameWord_eq, s.sct.commitWord_eq, result, source, checkGap, index, checkLength,
      checkRest⟩

/-! ## The windows -/

/-- An event record's first word (R143). -/
theorem EventRecord.firstWord_eq (r : EventRecord) :
    r.firstWord = r.serial ++ 0#3 ++ BitVec.ofNat 5 r.kind.code ++ r.detail := by
  rw [← fieldAt_whole (_ ++ _), fieldAt_append, fieldAt_append, fieldAt_append, EventRecord.firstWord]
  simp only [natAt, fieldAt_zero, BitVec.zero_or, BitVec.or_assoc, Nat.reduceAdd]

theorem Sample.word_eq (x : Sample) :
    x.word = 0#1 ++ BitVec.ofBool x.overRange ++ BitVec.ofBool x.noData ++ BitVec.ofBool x.fresh ++ x.seq ++ x.value := by
  rw [← fieldAt_whole (_ ++ _), fieldAt_append, fieldAt_append, fieldAt_append, fieldAt_append, fieldAt_append,
    Sample.word]
  simp only [flagAt, fieldAt_zero, BitVec.or_zero, BitVec.or_assoc, Nat.reduceAdd]

theorem referenceWord_eq (value : BitVec 20) (frame : BitVec 16) :
    referenceWord value frame = 8#4 ++ frame.extractLsb' 0 8 ++ value := by
  have top : fieldAt 28 (8#4) = flagAt 31 true := rfl
  rw [← fieldAt_whole (_ ++ _), fieldAt_append, fieldAt_append, referenceWord]
  simp only [top, BitVec.or_assoc, Nat.reduceAdd]

theorem fieldAt_zero_append {n m : Nat} (k : Nat) (x : BitVec n) : fieldAt k (0#m ++ x) = fieldAt k x := by
  rw [fieldAt_append, fieldAt_zero, BitVec.or_zero]

/-- The event window: two words for a record that is queued, 0 beyond the depth (R143). -/
theorem Events.windowWord_queued (e : Events) {j : Nat} (h : j < e.queue.length) :
    e.windowWord (2 * j) = e.queue[j].firstWord ∧ e.windowWord (2 * j + 1) = fieldAt 0 e.queue[j].frame := by
  have half : (2 * j + 1) / 2 = j := by omega
  simp [Events.windowWord, half, List.getElem?_eq_getElem h]

theorem Events.windowWord_beyond (e : Events) {j : Nat} (h : e.queue.length ≤ j) :
    e.windowWord (2 * j) = 0 ∧ e.windowWord (2 * j + 1) = 0 := by
  have half : (2 * j + 1) / 2 = j := by omega
  simp [Events.windowWord, half, List.getElem?_eq_none h]

/-- The windows by their first words (R171). -/
theorem State.readWord_eventWindow (s : State) {k : Nat} (h : k < 32) : s.readWord (0x040 + k) = s.evu.windowWord k := by
  have region : regionOf (0x040 + k) = some .eventWindow := by interval_cases k <;> rfl
  simp [State.readWord, region]

theorem State.readWord_channels (s : State) {c : Nat} (h : c < 32) :
    s.readWord (0x100 + c) = (s.cap.channel c).record ∧ s.readWord (0x140 + c) = (s.cap.channel c).sample.word ∧
      s.readWord (0x180 + c) = fieldAt 0 (s.cap.channel c).superseded := by
  have regions : regionOf (0x100 + c) = some .channelTable ∧ regionOf (0x140 + c) = some .latestSamples ∧
      regionOf (0x180 + c) = some .supersedeCounts := by interval_cases c <;> exact ⟨rfl, rfl, rfl⟩
  simp [State.readWord, State.latestWord, regions, h]

theorem regionOf_tables {k : Nat} (h : k < 256) :
    regionOf (0x200 + k) = some .activeWindow ∧ regionOf (0x300 + k) = some .stagedWindow := by
  constructor <;> unfold regionOf placedRegister <;> split_ifs <;> simp_all <;> omega

theorem State.readWord_tables (s : State) {k : Nat} (h : k < 256) :
    s.readWord (0x200 + k) = s.sct.active.entry k ∧ s.readWord (0x300 + k) = s.sct.staged.entry k := by
  simp [State.readWord, regionOf_tables h]

/-- LOG_STATUS, field by field (R130). -/
theorem State.logStatusWord_fields (s : State) :
    s.logStatusWord.extractLsb' 0 14 = BitVec.ofNat 14 s.stl.count ∧ s.logStatusWord.extractLsb' 14 2 = 0 ∧
      s.logStatusWord.extractLsb' 21 3 = 0 ∧ s.logStatusWord.getLsbD 31 = false ∧
      s.logStatusWord.extractLsb' 16 5 = BitVec.ofNat 5 s.stl.inFlight ∧ s.logStatusWord.getLsbD 24 = s.stl.full ∧
      s.logStatusWord.extractLsb' 25 4 = BitVec.ofNat 4 s.stl.queue.length ∧
      s.logStatusWord.getLsbD 29 = s.stl.disarmed ∧ s.logStatusWord.getLsbD 30 = s.link.drain.valid := by
  unfold State.logStatusWord
  simp only [BitVec.extractLsb'_or, BitVec.getLsbD_or]
  refine ⟨?_, ?_, ?_, ?_, ?_, ?_, ?_, ?_, ?_⟩ <;>
    simp [-BitVec.getLsbD_eq_getElem]

/-- Settles O33: each window by the lemma about its words. -/
theorem windowsShowTheirState : Obligations.WindowsShowTheirState := by
  intro s
  have event {j : Nat} (h : j < 16) : s.readWord (0x040 + 2 * j) = s.evu.windowWord (2 * j) ∧
      s.readWord (0x041 + 2 * j) = s.evu.windowWord (2 * j + 1) := by
    refine ⟨s.readWord_eventWindow (by omega), ?_⟩
    rw [← s.readWord_eventWindow (by omega), show 0x040 + (2 * j + 1) = 0x041 + 2 * j by omega]
  refine ⟨fun j h hj => ?_, fun j hj h => ?_, fun c hc => ?_, referenceWord_eq _ _, referenceWord_eq _ _,
    fun k hk => s.readWord_tables hk, s.logStatusWord_fields⟩
  · obtain ⟨first, second⟩ := s.evu.windowWord_queued h
    rw [(event hj).1, (event hj).2, first, second, EventRecord.firstWord_eq, ← fieldAt_zero_append, fieldAt_whole]
    exact ⟨rfl, rfl⟩
  · rw [(event hj).1, (event hj).2]
    exact s.evu.windowWord_beyond h
  · obtain ⟨record, sample, superseded⟩ := s.readWord_channels hc
    rw [record, sample, superseded, Sample.word_eq, ← fieldAt_zero_append, fieldAt_whole]
    exact ⟨rfl, rfl, rfl⟩

end Sys2Proof.Machine
end

section
/-! SUPPORT. What a written word does (O35, O36), the slot word (O57), the reply token (O20), leaving RUN (O44). -/

namespace Sys2Proof.Machine

set_option Elab.async false

open Sys2Proof (Word Octet)

/-! ## Written registers -/

/-- Masks of low fields, as concatenations (R172). -/
theorem and_storedBits (w : Word) :
    w &&& storedBits 0x004 = 0#24 ++ w.extractLsb' 0 8 ∧ w &&& storedBits 0x00D = 0#24 ++ w.extractLsb' 0 8 ∧
      w &&& storedBits 0x00E = 0#12 ++ w.extractLsb' 0 20 ∧ w &&& storedBits 0x010 = 0#28 ++ w.extractLsb' 0 4 ∧
      w &&& storedBits 0x018 = 0#8 ++ w.extractLsb' 16 8 ++ 0#1 ++ w.extractLsb' 8 7 ++ 0#5 ++ w.extractLsb' 0 3 ∧
      w &&& storedBits 0x019 = 0#18 ++ w.extractLsb' 0 14 ∧
      w &&& storedBits 0x021 = 0#13 ++ w.extractLsb' 1 18 ++ 0#1 ∧
      w &&& storedBits 0x022 = 0#13 ++ w.extractLsb' 0 19 ∧
      w &&& storedBits 0x100 = 0#19 ++ w.extractLsb' 8 5 ++ 0#6 ++ w.extractLsb' 0 2 := by
  refine ⟨?_, ?_, ?_, ?_, ?_, ?_, ?_, ?_, ?_⟩ <;>
    (rw [← fieldAt_whole (_ ++ _)]
     repeat rw [fieldAt_append]
     simp only [fieldAt_zero, BitVec.or_zero, Nat.reduceAdd]
     refine BitVec.eq_of_getLsbD_eq fun j hj => ?_
     interval_cases j <;> simp [-BitVec.getLsbD_eq_getElem, storedBits, getLsbD_fieldAt])

theorem setIfInBounds_eq_set {α : Type} {n : Nat} (v : Vector α n) {k : Nat} (h : k < n) (x : α) :
    v.setIfInBounds k x = v.set k x := by
  apply Vector.ext
  intro i hi
  simp [Vector.getElem_setIfInBounds, Vector.getElem_set]

theorem Capture.feed_eq (p : Capture) {f : Nat} (h : f < 4) : p.feed f = p.feeds[f] := by simp [Capture.feed, h]

theorem Capture.channel_eq (p : Capture) {c : Nat} (h : c < 32) : p.channel c = p.channels[c] := by
  simp [Capture.channel, h]

/-- A word of the channel table, and a supersede count, written (R69, R70, R76). -/
theorem State.writeWord_channels (s : State) (w : Word) {c : Nat} (h : c < 32) :
    s.writeWord (0x100 + c) w = s.updateChannel c (·.writeRecord w) ∧
      s.writeWord (0x180 + c) w = s.updateChannel c (·.writeSuperseded w) := by
  have regions : regionOf (0x100 + c) = some .channelTable ∧ regionOf (0x180 + c) = some .supersedeCounts := by
    interval_cases c <;> exact ⟨rfl, rfl⟩
  simp [State.writeWord, regions]

theorem State.writeWord_feedStatus (s : State) (w : Word) {f : Nat} (h : f < 4) :
    s.writeWord (0x011 + f) w = s.writeFeedStatus f w := by
  interval_cases f <;> rfl

theorem State.writeWord_user (s : State) (w : Word) {k : Nat} (h : k < 4) :
    s.writeWord (0x030 + k) w = s.writeUser k w ∧
      ∀ t : State, t.readWord (0x030 + k) = t.userWord k := by
  interval_cases k <;> exact ⟨rfl, fun _ => rfl⟩

/-- Settles O35: each word by `State.writeWord`; the masks of stored bits are concatenations (`and_storedBits`). -/
theorem writtenWordsAct : Obligations.WrittenWordsAct := by
  refine ⟨fun s w => ?stored, fun s w => ?cleared, fun s w => ?acting⟩ <;>
    obtain ⟨link, watch, span, feed, store, mark, enable, alert, record⟩ := and_storedBits w
  case stored =>
    rw [← link, ← span, ← feed, ← mark, ← enable, ← alert]
    refine ⟨rfl, rfl, rfl, rfl, rfl, rfl, fun k hk => ?_⟩
    obtain ⟨written, read⟩ := s.writeWord_user w hk
    rw [written, read]
    exact ⟨by simp [State.writeUser, setIfInBounds_eq_set _ hk], by simp [State.writeUser, State.userWord, hk]⟩
  case cleared =>
    refine ⟨rfl, rfl, fun f hf => ?_, fun c hc => ?_⟩
    · rw [s.writeWord_feedStatus w hf]
      simp only [State.writeFeedStatus, Capture.setFeed, setIfInBounds_eq_set _ hf, s.cap.feed_eq hf]
      rfl
    · rw [(s.writeWord_channels w hc).2]
      simp only [State.updateChannel, Capture.setChannel, setIfInBounds_eq_set _ hc, s.cap.channel_eq hc]
      rfl
  case acting =>
    rw [← watch, ← store, ← record]
    refine ⟨rfl, rfl, rfl, fun c hc => ?_⟩
    rw [(s.writeWord_channels w hc).1]
    simp only [State.updateChannel, Capture.setChannel, setIfInBounds_eq_set _ hc, s.cap.channel_eq hc]
    rfl

/-! ## The table windows -/

@[simp] theorem Table.entry_setIfInBounds (t : Table) {k : Nat} (h : k < 256) (w : Word) (j : Nat) :
    Table.entry (t.setIfInBounds k w) j = if j = k then w else t.entry j := by
  by_cases e : j = k
  · subst e
    simp [Table.entry, h]
  · simp [Table.entry, e, Ne.symm e]

/-- An entry written in a role, which `ofActive` names: the table in the other role stands (R79, R85, R86). -/
theorem Tables.writeEntry_roles (t : Tables) (k : Nat) (w : Word) :
    (t.writeEntry true k w).active = t.active.setIfInBounds k w ∧ (t.writeEntry true k w).staged = t.staged ∧
      (t.writeEntry false k w).active = t.active ∧
      (t.writeEntry false k w).staged = t.staged.setIfInBounds k w := by
  cases h : t.firstActive <;> simp [Tables.writeEntry, Tables.active, Tables.staged, h]

theorem Tables.writeEntry_rest (t : Tables) (ofActive : Bool) (k : Nat) (w : Word) :
    (t.writeEntry ofActive k w).firstActive = t.firstActive ∧ (t.writeEntry ofActive k w).commit = t.commit ∧
      (t.writeEntry ofActive k w).check = t.check := by
  unfold Tables.writeEntry
  split <;> exact ⟨rfl, rfl, rfl⟩

/-- Settles O36: a window word is `Tables.writeEntry` of its role. -/
theorem tableWindowsWriteByRole : Obligations.TableWindowsWriteByRole := by
  intro s w k hk
  obtain ⟨active, staged⟩ := regionOf_tables hk
  obtain ⟨active', stagedKept, activeKept, staged'⟩ := s.sct.writeEntry_roles k w
  obtain ⟨role, commit, check⟩ := s.sct.writeEntry_rest true k w
  obtain ⟨role', commit', check'⟩ := s.sct.writeEntry_rest false k w
  refine ⟨⟨s.sct.writeEntry true k w, by simp [State.writeWord, active], role, commit, check, stagedKept, ?_,
      fun j hj => ?_⟩,
    ⟨s.sct.writeEntry false k w, by simp [State.writeWord, staged], role', commit', check', activeKept, ?_,
      fun j hj => ?_⟩⟩
  · rw [active', Table.entry_setIfInBounds _ hk, if_pos rfl]
  · rw [active', Table.entry_setIfInBounds _ hk, if_neg hj]
  · rw [staged', Table.entry_setIfInBounds _ hk, if_pos rfl]
  · rw [staged', Table.entry_setIfInBounds _ hk, if_neg hj]

/-! ## The reply token -/

/-- Settles O20: the token octet by octet, and the delays by the ranges of `ackDelayOf` and `readDelayOf`. -/
theorem replyTokenAndDelays : Obligations.ReplyTokenAndDelays := by
  refine ⟨rfl, fun u after h v => ?token, fun u after h v => ?delays⟩
  case token =>
    have first : ∀ (c : BitVec 2) (f : Bool) (q : BitVec 4), let a : Octet := c ++ BitVec.ofBool f ++ 0#1 ++ q
        a.extractLsb' 6 2 = c ∧ a.getLsbD 5 = f ∧ a.getLsbD 4 = false ∧ a.extractLsb' 0 4 = q := by decide
    have second : ∀ i : BitVec 4, let b : Octet := 0#4 ++ i
        b.extractLsb' 4 4 = 0 ∧ b.extractLsb' 0 4 = i := by decide
    obtain ⟨verdict, attention, gap, seq⟩ := first v.code after.evu.attention h.seq
    obtain ⟨high, info⟩ := second v.info
    refine ⟨_, _, _, rfl, verdict.trans ?_, attention, gap, seq, high, info.trans ?_, rfl⟩ <;> cases v <;> rfl
  case delays =>
    dsimp only [State.replyFor, State.delaysWord, ackDelayOf, readDelayOf]
    refine ⟨fun inside => if_pos inside, fun outside => if_neg (by omega), fun inside => if_pos inside,
      fun outside => if_neg (by omega)⟩

/-! ## Leaving RUN -/

/-- The exchange of the roles (R79). -/
theorem Tables.swap_roles (t : Tables) : t.swap.active = t.staged ∧ t.swap.staged = t.active := by
  cases h : t.firstActive <;> simp [Tables.swap, Tables.active, Tables.staged, h]

theorem State.swapTables_evu (s : State) (cause : SwapCause) :
    (s.swapTables cause).evu =
      s.evu.push (s.ctl.mode = .reset) .tableSwapped (cause.code ++ BitVec.ofNat 8 (s.sct.staged.length - 1))
        s.lane.frame := by
  rw [← s.sct.swap_roles.1]
  rfl

theorem State.leaveRun_eq (s : State) :
    s.leaveRun =
      { s with
        ctl := { s.ctl with mode := .setup, stop := none }
        lane := s.lane.leave
        sct := s.commitOnStop.sct
        evu := s.commitOnStop.evu } := by
  unfold State.leaveRun State.commitOnStop
  dsimp only
  split <;> rfl

/-- Settles O44: the commit is carried out on the way (`commitOnStop_cases`). -/
theorem leavingRunCarriesOutCommit : Obligations.LeavingRunCarriesOutCommit := by
  intro s
  refine ⟨_, _, s.leaveRun_eq, fun none => ?_, fun pending => ?_⟩
  · rcases s.commitOnStop_cases with ⟨-, e⟩ | ⟨some, -⟩
    · rw [e]
      exact ⟨rfl, rfl⟩
    · simp [none] at some
  · rcases s.commitOnStop_cases with ⟨none, -⟩ | ⟨-, e⟩
    · exact absurd none pending
    · rw [e]
      exact ⟨rfl, s.sct.swap_roles.1, s.sct.swap_roles.2, s.swapTables_evu .stop⟩

end Sys2Proof.Machine
end

section
/-! SUPPORT. The slot word (O57). -/

namespace Sys2Proof.Machine

set_option Elab.async false

open Sys2Proof (Word Octet)

/-- The parity of a list of bits. -/
theorem oddOnes_eq (bs : List Bool) : oddOnes bs = decide (bs.countP id % 2 = 1) := by
  have general (b : Bool) : bs.foldl (fun a c => a ^^ c) b = (b ^^ decide (bs.countP id % 2 = 1)) := by
    induction bs generalizing b with
    | nil => simp
    | cons c cs ih =>
      rw [List.foldl_cons, ih]
      cases c <;> simp
      have := Nat.mod_two_eq_zero_or_one (List.countP id cs)
      rcases this with e | e <;> simp [e, Nat.add_mod]
  exact (general false).trans (Bool.false_xor _)

theorem oddOnes_map {α : Type} (f : α → Bool) (l : List α) : oddOnes (l.map f) = decide (l.countP f % 2 = 1) := by
  rw [oddOnes_eq, List.countP_map]
  rfl

/-- The check bits stand in bits 1 and 0, and touch no other bit (R103). -/
theorem getLsbD_withCheckBits (w : BitVec 40) (j : Nat) :
    (withCheckBits w).getLsbD j =
      (w.getLsbD j || (decide (j = 1) && oddOnes ((List.range 20).map fun k => w.getLsbD (2 * k + 1))) ||
        (decide (j = 0) && oddOnes ((List.range 20).map fun k => w.getLsbD (2 * k)))) := by
  unfold withCheckBits
  dsimp only
  simp only [BitVec.getLsbD_or]
  generalize oddOnes _ = odd
  generalize oddOnes _ = even
  congr 1
  · congr 1
    by_cases h : j = 1
    · subst h; cases odd <;> rfl
    · by_cases h0 : j = 0
      · subst h0; cases odd <;> rfl
      · simp [h]
        omega
  · by_cases h : j = 0
    · subst h; cases even <;> rfl
    · simp [h]


/-- A word with bits 1 and 0 clear gets check bits that leave both parities even (R103). -/
theorem withCheckBits_even {w : BitVec 40} (h0 : w.getLsbD 0 = false) (h1 : w.getLsbD 1 = false) :
    (List.range 20).countP (fun k => (withCheckBits w).getLsbD (2 * k + 1)) % 2 = 0 ∧
      (List.range 20).countP (fun k => (withCheckBits w).getLsbD (2 * k)) % 2 = 0 := by
  have split (f : Nat → Bool) :
      (List.range 20).countP f = (List.range 19).countP (fun k => f (k + 1)) + if f 0 then 1 else 0 := by
    rw [List.range_succ_eq_map, List.countP_cons, List.countP_map]
    rfl
  constructor
  · rw [split]
    simp only [getLsbD_withCheckBits, oddOnes_map]
    rw [split fun k => w.getLsbD (2 * k + 1)]
    simp only [Nat.mul_zero, Nat.zero_add, h1]
    have apart (k : Nat) : 2 * (k + 1) + 1 ≠ 1 ∧ 2 * (k + 1) + 1 ≠ 0 := by omega
    simp only [apart]
    rcases Nat.mod_two_eq_zero_or_one
      ((List.range 19).countP fun k => w.getLsbD (2 * (k + 1) + 1)) with e | e <;> simp [e, Nat.add_mod]
  · rw [split]
    simp only [getLsbD_withCheckBits, oddOnes_map]
    rw [split fun k => w.getLsbD (2 * k)]
    simp only [Nat.mul_zero, h0]
    have apart (k : Nat) : 2 * (k + 1) ≠ 1 ∧ 2 * (k + 1) ≠ 0 := by omega
    simp only [apart]
    rcases Nat.mod_two_eq_zero_or_one
      ((List.range 19).countP fun k => w.getLsbD (2 * (k + 1))) with e | e <;> simp [e, Nat.add_mod]

section
variable (channel : Nat) (stale noData overRange reference : Bool) (seq : BitVec 8) (value : BitVec 20)

/-- The slot word's body bit by bit (R103). -/
theorem getLsbD_slotWordBody (j : Nat) :
    (slotWordBody channel stale noData overRange reference seq value).getLsbD j =
      if j < 2 then (0#2).getLsbD j
      else if j - 2 < 20 then value.getLsbD (j - 2)
      else if j - 2 - 20 < 8 then seq.getLsbD (j - 2 - 20)
      else if j - 2 - 20 - 8 < 1 then (BitVec.ofBool reference).getLsbD (j - 2 - 20 - 8)
      else if j - 2 - 20 - 8 - 1 < 1 then (BitVec.ofBool overRange).getLsbD (j - 2 - 20 - 8 - 1)
      else if j - 2 - 20 - 8 - 1 - 1 < 1 then (BitVec.ofBool noData).getLsbD (j - 2 - 20 - 8 - 1 - 1)
      else if j - 2 - 20 - 8 - 1 - 1 - 1 < 1 then (BitVec.ofBool stale).getLsbD (j - 2 - 20 - 8 - 1 - 1 - 1)
      else (BitVec.ofNat 6 channel).getLsbD (j - 2 - 20 - 8 - 1 - 1 - 1 - 1) := by
  unfold slotWordBody
  rw [BitVec.getLsbD_append, BitVec.getLsbD_append, BitVec.getLsbD_append, BitVec.getLsbD_append, BitVec.getLsbD_append,
    BitVec.getLsbD_append, BitVec.getLsbD_append]

/-- The fields of a slot word with its check bits (R103). -/
theorem slotWord_fields :
    let w := withCheckBits (slotWordBody channel stale noData overRange reference seq value)
    w.extractLsb' 34 6 = BitVec.ofNat 6 channel ∧ w.getLsbD 33 = stale ∧ w.getLsbD 32 = noData ∧
      w.getLsbD 31 = overRange ∧ w.getLsbD 30 = reference ∧ w.extractLsb' 22 8 = seq ∧ w.extractLsb' 2 20 = value ∧
      (List.range 20).countP (fun k => w.getLsbD (2 * k + 1)) % 2 = 0 ∧
      (List.range 20).countP (fun k => w.getLsbD (2 * k)) % 2 = 0 := by
  intro w
  have above {j : Nat} (h : 2 ≤ j) :
      w.getLsbD j = (slotWordBody channel stale noData overRange reference seq value).getLsbD j := by
    simp [w, getLsbD_withCheckBits, show j ≠ 1 by omega, show j ≠ 0 by omega]
  obtain ⟨odd, even⟩ := withCheckBits_even
    (w := slotWordBody channel stale noData overRange reference seq value) (by rw [getLsbD_slotWordBody]; rfl)
    (by rw [getLsbD_slotWordBody]; rfl)
  refine ⟨?_, ?_, ?_, ?_, ?_, ?_, ?_, odd, even⟩
  · refine BitVec.eq_of_getLsbD_eq fun i hi => ?_
    rw [BitVec.getLsbD_extractLsb', above (by omega), getLsbD_slotWordBody]
    interval_cases i <;> rfl
  · rw [above (by decide), getLsbD_slotWordBody]; cases stale <;> rfl
  · rw [above (by decide), getLsbD_slotWordBody]; cases noData <;> rfl
  · rw [above (by decide), getLsbD_slotWordBody]; cases overRange <;> rfl
  · rw [above (by decide), getLsbD_slotWordBody]; cases reference <;> rfl
  · refine BitVec.eq_of_getLsbD_eq fun i hi => ?_
    rw [BitVec.getLsbD_extractLsb', above (by omega), getLsbD_slotWordBody]
    interval_cases i <;> rfl
  · refine BitVec.eq_of_getLsbD_eq fun i hi => ?_
    rw [BitVec.getLsbD_extractLsb', above (by omega), getLsbD_slotWordBody]
    interval_cases i <;> rfl

end

/-- The slot word of every channel in one form: a capture channel's sample, 0 without data, or a reference (R104). -/
theorem State.slotWord_eq (s : State) {c : Nat} (hc : c ≤ 33) :
    let x := (s.cap.channel c).sample
    s.slotWord c =
      withCheckBits (slotWordBody c (decide (c ≤ 31 ∧ x.noData = false ∧ x.fresh = false))
        (decide (c ≤ 31 ∧ x.noData = true)) (decide (c ≤ 31 ∧ x.noData = false ∧ x.overRange = true)) (decide (32 ≤ c))
        (if 32 ≤ c then s.lane.frame.extractLsb' 0 8 else if x.noData = true then 0 else x.seq)
        (if c = 32 then 0 else if c = 33 then s.cap.span.extractLsb' 0 20
          else if x.noData = true then 0 else x.value)) := by
  intro x
  rcases Nat.lt_or_ge c 32 with capture | reference
  · have word : s.slotWord c = sampleSlotWord c x := if_pos capture
    have apart : ¬32 ≤ c ∧ c ≤ 31 ∧ c ≠ 32 ∧ c ≠ 33 := by omega
    rw [word, sampleSlotWord]
    cases x.noData <;> cases x.fresh <;> simp [apart]
  · obtain rfl | rfl : c = 32 ∨ c = 33 := by omega
    · simp [State.slotWord, referenceSlotWord]
    · simp [State.slotWord, referenceSlotWord, Capture.spanValue]

/-- Settles O57, by the fields of a slot word with its check bits. -/
theorem slotWordLayout : Obligations.SlotWordLayout := by
  intro s c hc w x
  have word : w = _ := s.slotWord_eq hc
  obtain ⟨channel, stale, noData, overRange, reference, seq, value, odd, even⟩ := slotWord_fields c
    (decide (c ≤ 31 ∧ x.noData = false ∧ x.fresh = false)) (decide (c ≤ 31 ∧ x.noData = true))
    (decide (c ≤ 31 ∧ x.noData = false ∧ x.overRange = true)) (decide (32 ≤ c))
    (if 32 ≤ c then s.lane.frame.extractLsb' 0 8 else if x.noData = true then 0 else x.seq)
    (if c = 32 then 0 else if c = 33 then s.cap.span.extractLsb' 0 20 else if x.noData = true then 0 else x.value)
  rw [word]
  exact ⟨channel, by rw [stale, decide_eq_true_iff], by rw [noData, decide_eq_true_iff],
    by rw [overRange, decide_eq_true_iff], by rw [reference, decide_eq_true_iff], seq, value, odd, even⟩

end Sys2Proof.Machine
end

section
/-! SUPPORT. The steps of R16: which step stops a request, and what a refusal or deferral changes (O25 to O28). -/

namespace Sys2Proof.Machine

set_option Elab.async false

open Sys2Proof (Instr Word Bank)

/-! ## The regions and the words covered -/

theorem Header.order_of_not_order {h : Header} (hc : h.command ≠ .order) : h.order = none := by
  simp [Header.order, hc]

theorem Header.order_of_order {h : Header} (hc : h.command = .order) : h.order = Order.ofCode h.address.toNat := by
  simp [Header.order, hc]

theorem Header.mem_coveredWords {h : Header} {a : Nat} :
    a ∈ h.coveredWords ↔ ∃ k < max 1 h.count.toNat, a = h.address.toNat + k := by
  simp [Header.coveredWords, Header.covered, eq_comm]

theorem Header.inOneRegion_iff (h : Header) :
    h.inOneRegion = true ↔ regionOf h.address.toNat ≠ none ∧
      ∀ k < max 1 h.count.toNat, regionOf (h.address.toNat + k) = regionOf h.address.toNat := by
  simp only [Header.inOneRegion, Bool.and_eq_true, Option.isSome_iff_ne_none, List.all_eq_true, Header.mem_coveredWords,
    decide_eq_true_eq]
  exact and_congr_right fun _ => ⟨fun all k hk => all _ ⟨k, hk, rfl⟩, fun all _ ⟨k, hk, e⟩ => e ▸ all k hk⟩

theorem Header.within_iff (h : Header) (lo hi : Nat) :
    h.within lo hi = true ↔ lo ≤ h.address.toNat ∧ h.address.toNat + max 1 h.count.toNat - 1 ≤ hi := by
  simp [Header.within, Header.last, Header.covered]

theorem Header.coveredWords_any_iff (h : Header) (p : Nat → Bool) :
    h.coveredWords.any p = true ↔ ∃ k < max 1 h.count.toNat, p (h.address.toNat + k) = true := by
  simp only [List.any_eq_true, Header.mem_coveredWords]
  exact ⟨fun ⟨_, ⟨k, hk, e⟩, hp⟩ => ⟨k, hk, e ▸ hp⟩, fun ⟨k, hk, hp⟩ => ⟨_, ⟨k, hk, rfl⟩, hp⟩⟩

/-! ## The steps before step 8 -/

theorem State.verdict_of_checkFails {u : State} {r : Request} (block : r.hdr.command.hasBlock = true)
    (fails : dataCheck r.words ≠ r.check) : u.verdict r = .refuse .dataCheck := by
  simp [State.verdict, Request.checkFails, block, fails]

theorem State.verdict_of_duplicate {u : State} {r : Request} (block : r.hdr.command.hasBlock = true)
    (check : dataCheck r.words = r.check) (direct : r.hdr.addressing = .direct)
    (known : u.link.mem.recognises r = true) : u.verdict r = .duplicate := by
  simp [State.verdict, Request.checkFails, Header.remembered, block, check, direct, known]

theorem ReplyMemory.recognises_iff (m : ReplyMemory) (r : Request) :
    m.recognises r = true ↔ m.valid = true ∧ m.seq = r.hdr.seq ∧ m.command = r.hdr.command ∧
      m.address = r.hdr.address ∧ m.count = r.hdr.count ∧ m.crc = r.check := by
  simp [ReplyMemory.recognises, and_assoc]

theorem Header.checkDetail_eq (h : Header) :
    h.checkDetail = 0#5 ++ h.command.code ++ 0#2 ++ h.addressing.code ++ h.seq := by
  have command (c : Command) : (c.code.setWidth 8 : BitVec 8) = 0#5 ++ c.code := by cases c <;> rfl
  have addressing (a : Addressing) : (a.code.setWidth 4 : BitVec 4) = 0#2 ++ a.code := by cases a <;> rfl
  rw [Header.checkDetail, octets2, command, addressing]
  generalize h.command.code = c
  generalize h.addressing.code = a
  generalize h.seq = q
  ext i hi
  simp only [BitVec.getElem_append, Nat.sub_sub, BitVec.getElem_zero]
  split_ifs <;> first | rfl | omega

theorem State.judgeAddressed_eq (u : State) (apply : State → State) (r : Request) :
    u.judgeAddressed apply r = u.answering (u.settle apply r (u.verdict r)) r (u.verdict r) := rfl

/-- Settles O25: steps 4 and 5 of R16 come first. -/
theorem dataCheckAndDuplicateComeFirst : Obligations.DataCheckAndDuplicateComeFirst := by
  intro u apply r block
  refine ⟨fun fails => ?_, fun check direct valid seq command address count crc => ?_⟩
  · rw [u.judgeAddressed_eq, State.verdict_of_checkFails block fails, ← r.hdr.checkDetail_eq, ← satInc_eight]
    rfl
  · rw [u.judgeAddressed_eq, State.verdict_of_duplicate block check direct
      ((u.link.mem.recognises_iff r).2 ⟨valid, seq, command, address, count, crc⟩)]
    rfl

/-! ## What a refused or deferred request changes -/

theorem State.settle_refuse (u : State) (apply : State → State) (r : Request) {why : Reason}
    (data : why ≠ .dataCheck) (table : why ≠ .badTable) : u.settle apply r (.refuse why) = u := by
  rcases u.settle_cases apply r (.refuse why) with ⟨h, -⟩ | ⟨h, -⟩ | ⟨h, -⟩ | ⟨h, -⟩ | ⟨-, e⟩
  case inr.inr.inr.inr => exact e
  all_goals simp [data, table] at h

theorem State.stepLegal_ne_badTable (u : State) (h : Header) : u.stepLegal h ≠ some (.refuse .badTable) := by
  unfold State.stepLegal
  cases u.ctl.mode <;> simp only [Header.legalInSelftest, State.legalInSetup, State.legalInRun] <;> (try split_ifs) <;> simp

theorem State.stepLocked_cases (u : State) (h : Header) :
    u.stepLocked h = none ∨ u.stepLocked h = some (.refuse .locked) := by
  unfold State.stepLocked
  dsimp only
  split_ifs <;> simp

/-- Only step 15 refuses with BAD_TABLE (R46, R87). -/
theorem State.stepPrecondition_of_badTable {u : State} {r : Request} (h : u.laterSteps r = some (.refuse .badTable)) :
    u.stepPrecondition r.hdr = some (.refuse .badTable) := by
  have or_cases {a b : Option Verdict} (ha : a ≠ some (.refuse .badTable)) (e : a.or b = some (.refuse .badTable)) :
      b = some (.refuse .badTable) := by
    cases a with
    | none => simpa using e
    | some v => exact absurd e ha
  unfold State.laterSteps at h
  have h9 := or_cases (u.stepLegal_ne_badTable r.hdr) h
  have h10 := or_cases (by unfold Header.stepOrder; split_ifs <;> simp) h9
  have h11 := or_cases (by unfold State.stepCount; split_ifs <;> simp) h10
  have h12 := or_cases (by unfold Header.stepAddress; split_ifs <;> simp) h11
  have h13 := or_cases (by unfold Header.stepEnables; split_ifs <;> simp) h12
  have h14 := or_cases (by unfold Request.stepValue; split_ifs <;> simp) h13
  have h15 := or_cases (by rcases u.stepLocked_cases r.hdr with e | e <;> simp [e]) h14
  cases e : u.stepPrecondition r.hdr with
  | some v => simpa [e] using h15
  | none =>
    rw [e, Option.none_or] at h15
    unfold State.stepBusy at h15
    split at h15
    · split_ifs at h15 <;> simp at h15
    · simp at h15

theorem State.verdict_badTable {u : State} {r : Request} (h : u.verdict r = .refuse .badTable) :
    u.stepPrecondition r.hdr = some (.refuse .badTable) := by
  unfold State.verdict at h
  split_ifs at h
  · simp at h
  · simp at h
  · simp at h
  · rcases u.laterSteps_cases r with e | ⟨why, -, e⟩ | e | e <;> simp only [e, Option.getD] at h
    · simp at h
    · exact State.stepPrecondition_of_badTable (e.trans (congrArg some h))
    · simp at h
    · simp at h

/-- A request refused with BAD_TABLE has validated the table that its order names. -/
theorem State.validates_of_badTable {u : State} {h : Header} (e : u.stepPrecondition h = some (.refuse .badTable)) :
    u.validates h = some (decide (Order.ofCode h.address.toNat ≠ some .commit)) := by
  have validated : (u.validates h).isSome = true := by
    unfold State.stepPrecondition at e
    split_ifs at e with failed
    · simp at e
    · cases hv : u.validates h with
      | none => rw [hv] at e; simp at e
      | some ofActive => rfl
  unfold State.validates at validated ⊢
  split_ifs at validated ⊢ with commit start
  · simp [((Header.order_eq_some_iff h _).1 commit).2]
  · simp only [Bool.and_eq_true, decide_eq_true_eq] at start
    simp [((Header.order_eq_some_iff h _).1 start.1).2]
  · simp at validated

theorem State.recordValidation_of_some {u : State} {h : Header} {ofActive : Bool} (e : u.validates h = some ofActive) :
    u.recordValidation h = { u with sct := { u.sct with check := u.validate ofActive } } := by
  rw [State.recordValidation, e]

theorem State.recordValidation_of_none {u : State} {h : Header} (e : u.validates h = none) :
    u.recordValidation h = u := by
  rw [State.recordValidation, e]

/-- A verdict defers with hint 15 or hint 2 (R17). -/
theorem State.verdict_defer_cases {u : State} {r : Request} {n : Nat} (h : u.verdict r = .defer n) : n = 15 ∨ n = 2 := by
  unfold State.verdict at h
  split_ifs at h
  rcases u.laterSteps_cases r with e | ⟨why, -, e⟩ | e | e <;> simp [e] at h
  · exact .inl h.symm
  · exact .inr h.symm

/-- Settles O26: by the case of the verdict. -/
theorem refusalsAndDeferralsChangeNothingElse : Obligations.RefusalsAndDeferralsChangeNothingElse := by
  intro u apply r
  refine ⟨fun why verdict data table => ?_, fun verdict => ?_, fun n verdict => ?_⟩
  · rw [u.judgeAddressed_eq, verdict, u.settle_refuse apply r data table]
  · rw [u.judgeAddressed_eq, verdict]
    exact congrArg (fun x => u.answering x r (.refuse .badTable))
      (State.recordValidation_of_some (State.validates_of_badTable (State.verdict_badTable verdict)))
  · rw [u.judgeAddressed_eq, verdict]
    rcases State.verdict_defer_cases verdict with rfl | rfl
    · exact .inl ⟨rfl, rfl⟩
    · obtain ⟨bank0, bank1, e⟩ := u.openNeeded_eq r.hdr
      exact .inr ⟨rfl, bank0, bank1, congrArg (fun x => u.answering x r (.defer 2)) e⟩

end Sys2Proof.Machine
end

section
/-! SUPPORT. Which requests pass each of the steps 8 to 14 of R16, and with what reason the others stop (O27, O28). -/

namespace Sys2Proof.Machine

set_option Elab.async false

open Sys2Proof (Instr Word Bank)

/-! ## Step 8: the matrix -/

section
variable {u : State} {h : Header}

theorem State.stepLegal_selftest (mode : u.ctl.mode = .selftest) : u.stepLegal h = h.legalInSelftest := by
  simp [State.stepLegal, mode]

theorem State.stepLegal_setup (mode : u.ctl.mode = .setup) : u.stepLegal h = u.legalInSetup h := by
  simp [State.stepLegal, mode]

theorem State.stepLegal_run (mode : u.ctl.mode = .run) : u.stepLegal h = u.legalInRun h := by
  simp [State.stepLegal, mode]

/-- A command other than ORDER is legal in SETUP; in RUN it is unless it is SET_ID (R58). -/
theorem State.stepLegal_of_not_order (mode : u.ctl.mode = .setup ∨ u.ctl.mode = .run) (command : h.command ≠ .order)
    (setId : h.command = .setId → u.ctl.mode = .setup) : u.stepLegal h = none := by
  rcases mode with mode | mode
  · simp [State.stepLegal_setup mode, State.legalInSetup, Header.order_of_not_order command]
  · have : h.command ≠ .setId := fun e => by simp [setId e] at mode
    simp [State.stepLegal_run mode, State.legalInRun, Header.order_of_not_order command, this]

/-- In SETUP every order is legal but STOP_RUN, and START_RUN on an unnamed node (R58). -/
theorem State.stepLegal_order_setup {o : Order} (mode : u.ctl.mode = .setup) (order : h.order = some o)
    (stop : o ≠ .stopRun) (start : o = .startRun → u.ident.nodeId ≠ 0) : u.stepLegal h = none := by
  simp only [State.stepLegal_setup mode, State.legalInSetup, order, Ident.named]
  simp only [Option.some.injEq, stop, decide_false, Bool.false_or]
  rw [if_neg]
  simpa using start

/-- In RUN every order is legal but those that need SETUP (R58). -/
theorem State.stepLegal_order_run {o : Order} (mode : u.ctl.mode = .run) (command : h.command = .order)
    (order : h.order = some o) (setup : o.needsSetup = false) : u.stepLegal h = none := by
  simp [State.stepLegal_run mode, State.legalInRun, order, setup, command]

end

section
variable {u : State} {r : Request}

theorem State.laterSteps_of_legal {v : Verdict} (legal : u.stepLegal r.hdr = some v) : u.laterSteps r = some v := by
  simp [State.laterSteps, legal]

theorem Command.unused_of_hasBlock {c : Command} (block : c.hasBlock = true) : c.unused = false := by
  cases c <;> first | rfl | simp [Command.hasBlock] at block

/-- A DIRECT request that passes the checks of its block and has a known command is judged by the steps from 8 on. -/
theorem State.verdict_of_direct (direct : r.hdr.addressing = .direct) (known : r.hdr.command.unused = false)
    (block : r.hdr.command.hasBlock = true → dataCheck r.words = r.check ∧ u.link.mem.recognises r = false) :
    u.verdict r = (u.laterSteps r).getD .accept :=
  State.verdict_of_later (fun h => (block h).1) (fun _ h => (block h).2) known (fun h => by simp [direct] at h)

theorem State.verdict_of_stop {v : Verdict} (direct : r.hdr.addressing = .direct) (known : r.hdr.command.unused = false)
    (block : r.hdr.command.hasBlock = true → dataCheck r.words = r.check ∧ u.link.mem.recognises r = false)
    (stop : u.laterSteps r = some v) : u.verdict r = v := by
  rw [State.verdict_of_direct direct known block, stop]
  rfl

theorem Request.orders_command {o : Order} (h : r.orders o) : r.hdr.command = .order := h.1

theorem Request.orders_order {o : Order} (h : r.orders o) : r.hdr.order = some o :=
  (Header.order_eq_some_iff _ _).2 ⟨h.1, h.2.1⟩

end

/-! ## Requests of a row at their acceptance point -/

section
variable {c : Instr} {s : State} {r : Request}

/-- A request row on a request that it serves and the node hears. -/
theorem exec_of_hears (row : rowBlock c = some r.block) (hears : s.hears r) (serves : rowServes c r.hdr) :
    exec c s = .next (s.atPoint.judge (effectOf c r) r) := by
  obtain ⟨belongs, iff, e⟩ := exec_eq_takeRequest row
  exact (e s).trans (State.takeRequest_of_hears hears ((iff _).2 serves))

/-- A request row on a request that is no broadcast: its verdict settles it. -/
theorem exec_of_verdict {v : Verdict} (row : rowBlock c = some r.block) (hears : s.hears r) (serves : rowServes c r.hdr)
    (addressed : r.hdr.addressing ≠ .broadcast) (verdict : s.atPoint.verdict r = v) :
    exec c s = .next (s.atPoint.answering (s.atPoint.settle (effectOf c r) r v) r v) := by
  rw [exec_of_hears row hears serves, State.judge_addressed addressed, State.judgeAddressed_eq, verdict]

/-- A request row on a request that is refused, neither with DATA_CHECK nor with BAD_TABLE: nothing but the reply. -/
theorem exec_of_refuse {why : Reason} (row : rowBlock c = some r.block) (hears : s.hears r) (serves : rowServes c r.hdr)
    (addressed : r.hdr.addressing ≠ .broadcast) (verdict : s.atPoint.verdict r = .refuse why)
    (data : why ≠ .dataCheck) (table : why ≠ .badTable) :
    exec c s = .next (s.atPoint.answering s.atPoint r (.refuse why)) := by
  rw [exec_of_verdict row hears serves addressed verdict, State.settle_refuse _ _ _ data table]

end

/-! ## The statement -/

/-- Settles O27: step 8 comes before every later step, step 7 and step 6 before it. -/
theorem matrixOfRequests : Obligations.MatrixOfRequests := by
  refine ⟨fun u r mode direct known check fresh outside => ?selftest,
    fun u r direct block check fresh => ⟨fun mode setId => ?setIdRun, fun mode needs => ?needsSetup,
      fun mode stop => ?stopSetup, fun mode start unnamed => ?startUnnamed⟩,
    fun u r chain known check notSetId outside => ?chain,
    fun s h hears unused addressing => ?unused, fun s r fresh order code mode => ?unknown⟩
  case selftest =>
    refine State.verdict_of_stop direct known (fun block => ⟨check block, fresh block⟩)
      (State.laterSteps_of_legal ?_)
    rw [State.stepLegal_selftest mode, Header.legalInSelftest, if_neg]
    simp only [Bool.and_eq_true, decide_eq_true_eq, Header.within_iff, not_and]
    intro read
    have := outside read
    omega
  case setIdRun =>
    refine State.verdict_of_stop direct (Command.unused_of_hasBlock block) (fun _ => ⟨check, fresh⟩)
      (State.laterSteps_of_legal ?_)
    rw [State.stepLegal_run mode, State.legalInRun, if_pos setId]
  case needsSetup =>
    refine State.verdict_of_stop direct (Command.unused_of_hasBlock block) (fun _ => ⟨check, fresh⟩)
      (State.laterSteps_of_legal ?_)
    have command : r.hdr.command ≠ .setId := by rcases needs with h | h | h <;> simp [h.1]
    have needed : r.hdr.order.any Order.needsSetup = true := by
      rcases needs with h | h | h <;> rw [Request.orders_order h] <;> rfl
    rw [State.stepLegal_run mode, State.legalInRun, if_neg command, if_pos needed]
    cases u.ctl.stop <;> simp
  case stopSetup =>
    refine State.verdict_of_stop direct (Command.unused_of_hasBlock block) (fun _ => ⟨check, fresh⟩)
      (State.laterSteps_of_legal ?_)
    simp [State.stepLegal_setup mode, State.legalInSetup, Request.orders_order stop]
  case startUnnamed =>
    refine State.verdict_of_stop direct (Command.unused_of_hasBlock block) (fun _ => ⟨check, fresh⟩)
      (State.laterSteps_of_legal ?_)
    simp [State.stepLegal_setup mode, State.legalInSetup, Request.orders_order start, Ident.named, unnamed]
  case chain =>
    have passes : r.checkFails = false := by
      cases hb : r.hdr.command.hasBlock <;> simp [Request.checkFails, hb, check]
    have closed : r.hdr.chainAllowed = false := by
      rw [Bool.eq_false_iff]
      simp only [ne_eq, Header.chainAllowed, Bool.or_eq_true, Bool.and_eq_true, decide_eq_true_eq, Header.within_iff,
        notSetId, or_false, not_and]
      intro read
      have := outside read
      omega
    simp [State.verdict, passes, Header.remembered, chain, known, closed]
  case unused =>
    have addressed : h.addressing ≠ .broadcast := by rcases addressing with e | e <;> simp [e]
    have noBlock : h.command.hasBlock = false := by
      cases hb : h.command.hasBlock
      · rfl
      · simp [Command.unused_of_hasBlock hb] at unused
    exact exec_of_refuse rfl hears ((Command.unused_iff _).1 unused) addressed
      (by simp [State.verdict, Request.checkFails, Header.remembered, noBlock, unused]) (by simp) (by simp)
  case unknown =>
    obtain ⟨hears, direct, block, check, fresh⟩ := fresh
    have unknown : r.hdr.order = none := (Header.order_of_order order).trans code
    have legal : s.atPoint.stepLegal r.hdr = none := by
      rcases mode with mode | mode
      · simp [State.stepLegal_setup mode, State.legalInSetup, unknown]
      · simp [State.stepLegal_run mode, State.legalInRun, unknown, order]
    refine exec_of_refuse rfl hears ⟨order, code⟩ (by simp [direct]) ?_ (by simp) (by simp)
    exact State.verdict_of_stop direct (Command.unused_of_hasBlock block) (fun _ => ⟨check, fresh⟩)
      (by simp [State.laterSteps, legal, Header.stepOrder, order, unknown])

end Sys2Proof.Machine
end

section
/-! SUPPORT. Steps 9 to 14 of R16 one by one, and the statement about counts, addresses and values (O28). -/

namespace Sys2Proof.Machine

set_option Elab.async false

open Sys2Proof (Instr Word Bank)

/-! ## What each step lets pass -/

section
variable {u : State} {r : Request} {h : Header}

theorem Header.stepOrder_of_not_order (command : h.command ≠ .order) : h.stepOrder = none := by
  simp [Header.stepOrder, command]

theorem Header.stepOrder_of_some {o : Order} (order : h.order = some o) : h.stepOrder = none := by
  simp [Header.stepOrder, order]

theorem State.stepCount_of_fits (lo : 1 ≤ h.count.toNat) (hi : h.count.toNat ≤ u.maxCount h.command) :
    u.stepCount h = none := by
  simp [State.stepCount, lo, hi]

theorem State.stepCount_of_outside (out : h.count.toNat = 0 ∨ u.maxCount h.command < h.count.toNat) :
    u.stepCount h = some (.refuse .badCount) := by
  rw [State.stepCount, if_neg]
  omega

theorem State.maxCount_of_words (words : h.command = .read ∨ h.command = .write) : u.maxCount h.command = 64 := by
  rcases words with e | e <;> simp [e, State.maxCount]

theorem Command.accessesWords_iff (c : Command) : c.accessesWords = true ↔ c = .read ∨ c = .write := by
  cases c <;> simp [Command.accessesWords]

theorem Header.stepAddress_of_no_words (command : h.command.accessesWords = false) : h.stepAddress = none := by
  simp [Header.stepAddress, command]

theorem Header.stepAddress_of_outside (words : h.command.accessesWords = true) (out : h.inOneRegion = false) :
    h.stepAddress = some (.refuse .badAddress) := by
  simp [Header.stepAddress, words, out]

theorem Header.stepAddress_of_inside (words : h.command.accessesWords = true) (region : h.inOneRegion = true)
    (page : h.toStore = true → logicalPage h.address.toNat = logicalPage h.last)
    (writable : h.command = .write → h.coveredWords.any readOnlyWord = false) : h.stepAddress = none := by
  rw [Header.stepAddress, if_neg (by simp [words]), if_neg (by simp [region]), if_neg (by simpa using page), if_neg]
  simpa using writable

/-- The two ends of the words covered lie in one page of the store exactly when they fit behind the offset of the
first (R121). -/
theorem Header.page_eq_iff (stored : h.namesStore) :
    logicalPage h.address.toNat = logicalPage h.last ↔ h.address.toNat % 128 + max 1 h.count.toNat ≤ 128 := by
  obtain ⟨lo, hi⟩ := stored
  simp only [logicalPage, Header.last, Header.covered]
  omega

theorem Header.stepEnables_of_not_write (command : h.command ≠ .write) : h.stepEnables = none := by
  simp [Header.stepEnables, command]

theorem Header.stepEnables_of_store (stored : h.toStore = true) : h.stepEnables = none := by
  simp [Header.stepEnables, stored]

theorem Header.stepEnables_of_whole (first : h.firstEn = 0xF) (last : h.lastEn = 0xF) : h.stepEnables = none := by
  simp [Header.stepEnables, first, last]

theorem Request.stepValue_of_write (command : r.hdr.command = .write) :
    r.stepValue = if !r.hdr.toStore && r.writes.any (fun p => badValue p.1 p.2) then some (.refuse .badValue) else none := by
  simp [Request.stepValue, command]

theorem Request.writes_any_iff (p : Nat × Word → Bool) :
    r.writes.any p = true ↔ ∃ k, ∃ h : k < r.words.length, p (r.hdr.address.toNat + k, r.words[k]) = true := by
  simp only [Request.writes, List.any_map, List.any_eq_true, Prod.exists, Function.comp_apply]
  constructor
  · rintro ⟨w, k, member, hp⟩
    obtain ⟨hk, e⟩ := List.mem_zipIdx' member
    exact ⟨k, hk, e ▸ hp⟩
  · rintro ⟨k, hk, hp⟩
    exact ⟨r.words[k], k, List.mk_mem_zipIdx_iff_getElem?.2 (List.getElem?_eq_getElem hk), hp⟩

theorem readOnlyWord_iff (a : Nat) :
    readOnlyWord a = true ↔ a ≤ 0x003 ∨ a = 0x006 ∨ (0x008 ≤ a ∧ a ≤ 0x00C) ∨ a = 0x01A ∨ a = 0x01C ∨ a = 0x020 ∨
      (0x028 ≤ a ∧ a ≤ 0x02A) ∨ (0x040 ≤ a ∧ a ≤ 0x05F) ∨ (0x140 ≤ a ∧ a ≤ 0x161) := by
  unfold readOnlyWord regionOf placedRegister readOnlyRegister
  split_ifs <;> simp_all <;> omega

theorem readOnlyWord_of_store {a : Nat} (stored : regionOf a = some .store) : readOnlyWord a = false := by
  simp [readOnlyWord, stored]

theorem badValue_iff (a : Nat) (w : Word) :
    badValue a w = true ↔
      (a = 0x004 ∧ ¬(2 ≤ (w.extractLsb' 0 4).toNat ∧ (w.extractLsb' 0 4).toNat ≤ 9 ∧
          1 ≤ (w.extractLsb' 4 4).toNat ∧ (w.extractLsb' 4 4).toNat ≤ 8)) ∨
        (a = 0x018 ∧ (128 < (w.extractLsb' 16 8).toNat ∨ ((w.extractLsb' 16 8).toNat ≠ 0 ∧
          128 < (w.extractLsb' 8 7).toNat + (w.extractLsb' 16 8).toNat))) ∨
        (a = 0x019 ∧ 8192 < (w.extractLsb' 0 14).toNat) ∨ (a = 0x023 ∧ 16 < (w.extractLsb' 0 5).toNat) ∨
        (0x100 ≤ a ∧ a ≤ 0x11F ∧ ¬(1 ≤ (w.extractLsb' 8 5).toNat ∧ (w.extractLsb' 8 5).toNat ≤ 16)) := by
  unfold badValue
  split_ifs with h4 h18 h19 h23 records
  · subst h4; simp [-BitVec.extractLsb'_toNat]; omega
  · subst h18; simp [-BitVec.extractLsb'_toNat]
  · subst h19; simp [-BitVec.extractLsb'_toNat]
  · subst h23; simp [-BitVec.extractLsb'_toNat]
  · simp [h4, h18, h19, h23, records, -BitVec.extractLsb'_toNat]; omega
  · simp [h4, h18, h19, h23, -BitVec.extractLsb'_toNat]; omega

theorem placedRegister_iff (a : Nat) :
    placedRegister a = true ↔ a ≤ 0x006 ∨ (0x008 ≤ a ∧ a ≤ 0x00E) ∨ (0x010 ≤ a ∧ a ≤ 0x014) ∨
      (0x018 ≤ a ∧ a ≤ 0x01C) ∨ (0x020 ≤ a ∧ a ≤ 0x023) ∨ (0x028 ≤ a ∧ a ≤ 0x02A) ∨ (0x030 ≤ a ∧ a ≤ 0x033) := by
  simp [placedRegister, or_assoc]

theorem regionOf_eq_registers_iff (a : Nat) : regionOf a = some .registers ↔ placedRegister a = true := by
  unfold regionOf
  split_ifs
  all_goals simp_all

theorem regionOf_eq_eventWindow_iff (a : Nat) : regionOf a = some .eventWindow ↔ 0x040 ≤ a ∧ a ≤ 0x05F := by
  unfold regionOf placedRegister
  split_ifs <;> simp_all <;> omega

theorem regionOf_eq_channelTable_iff (a : Nat) : regionOf a = some .channelTable ↔ 0x100 ≤ a ∧ a ≤ 0x11F := by
  unfold regionOf placedRegister
  split_ifs <;> simp_all <;> omega

theorem regionOf_eq_latestSamples_iff (a : Nat) : regionOf a = some .latestSamples ↔ 0x140 ≤ a ∧ a ≤ 0x161 := by
  unfold regionOf placedRegister
  split_ifs <;> simp_all <;> omega

theorem regionOf_eq_supersedeCounts_iff (a : Nat) : regionOf a = some .supersedeCounts ↔ 0x180 ≤ a ∧ a ≤ 0x19F := by
  unfold regionOf placedRegister
  split_ifs <;> simp_all <;> omega

theorem regionOf_eq_activeWindow_iff (a : Nat) : regionOf a = some .activeWindow ↔ 0x200 ≤ a ∧ a ≤ 0x2FF := by
  unfold regionOf placedRegister
  split_ifs <;> simp_all <;> omega

theorem regionOf_eq_stagedWindow_iff (a : Nat) : regionOf a = some .stagedWindow ↔ 0x300 ≤ a ∧ a ≤ 0x3FF := by
  unfold regionOf placedRegister
  split_ifs <;> simp_all <;> omega

end

/-! ## The statement -/

/-- Settles O28: by the step that stops the request. -/
theorem countsAddressesAndValuesChecked : Obligations.CountsAddressesAndValuesChecked := by
  refine ⟨fun a => ⟨?_, regionOf_eq_eventWindow_iff a, regionOf_eq_channelTable_iff a, regionOf_eq_latestSamples_iff a,
    regionOf_eq_supersedeCounts_iff a, regionOf_eq_activeWindow_iff a, regionOf_eq_stagedWindow_iff a,
    regionOf_eq_store_iff a⟩, fun u r mode direct block => ?_⟩
  · simp [regionOf_eq_registers_iff, placedRegister_iff]
  intro a n words counted oneRegion stored readOnly writable whole outOfRange
  have stop {v : Verdict} (known : r.hdr.command.unused = false) (later : u.laterSteps r = some v) : u.verdict r = v :=
    State.verdict_of_stop direct known block later
  have known (h : words) : r.hdr.command.unused = false := by rcases h with e | e <;> simp [e, Command.unused]
  have notOrder (h : words) : r.hdr.command ≠ .order := by rcases h with e | e <;> simp [e]
  have legal (h : words) : u.stepLegal r.hdr = none :=
    State.stepLegal_of_not_order mode (notOrder h) (fun e => by rcases h with e' | e' <;> simp [e'] at e)
  have order (h : words) := Header.stepOrder_of_not_order (notOrder h)
  have count (h : counted) : u.stepCount r.hdr = none :=
    State.stepCount_of_fits h.2.1 (State.maxCount_of_words (u := u) h.1 ▸ h.2.2)
  have covered (h : counted) : max 1 r.hdr.count.toNat = n := Nat.max_eq_right h.2.1
  have accesses (h : words) := (Command.accessesWords_iff _).2 h
  have inside (h : oneRegion) : r.hdr.inOneRegion = true :=
    (Header.inOneRegion_iff _).2 ⟨h.2.1, covered h.1 ▸ h.2.2⟩
  have address (h : writable) : r.hdr.stepAddress = none := by
    obtain ⟨one, write, notStored, free⟩ := h
    refine Header.stepAddress_of_inside (accesses one.1.1) (inside one) (fun e => ?_) (fun _ => ?_)
    · exact absurd (decide_eq_true_iff.1 e) notStored
    · rw [Bool.eq_false_iff, ne_eq, Header.coveredWords_any_iff, covered one.1]
      rintro ⟨k, hk, e⟩
      exact free k hk ((readOnlyWord_iff _).1 e)
  have notStore (h : writable) : r.hdr.toStore = false := decide_eq_false h.2.2.1
  refine ⟨fun w out => ?count, fun drain out => ?drain, fun setId setup out => ?setId, fun ord code leg out => ?order,
    fun c out => ?address, fun one st far => ?span, fun one write ro => ?readOnly, fun w part => ?enables,
    fun w wh len out => ?value⟩
  case count =>
    refine stop (known w) ?_
    simp [State.laterSteps, legal w, order w,
      State.stepCount_of_outside (u := u) (h := r.hdr) (State.maxCount_of_words (u := u) w ▸ out)]
  case drain =>
    have notOrder : r.hdr.command ≠ .order := by simp [drain]
    refine stop (by simp [drain, Command.unused]) ?_
    have tooMany : r.hdr.count.toNat = 0 ∨ u.maxCount r.hdr.command < r.hdr.count.toNat := by
      simpa [drain, State.maxCount] using out
    simp [State.laterSteps, State.stepLegal_of_not_order mode notOrder (by simp [drain]),
      Header.stepOrder_of_not_order notOrder, State.stepCount_of_outside tooMany]
  case setId =>
    have notOrder : r.hdr.command ≠ .order := by simp [setId]
    refine stop (by simp [setId, Command.unused]) ?_
    have tooMany : r.hdr.count.toNat = 0 ∨ u.maxCount r.hdr.command < r.hdr.count.toNat := by
      simp only [setId, State.maxCount]; omega
    simp [State.laterSteps, State.stepLegal_of_not_order mode notOrder (fun _ => setup),
      Header.stepOrder_of_not_order notOrder, State.stepCount_of_outside tooMany]
  case order =>
    refine stop (by simp [ord, Command.unused]) ?_
    obtain ⟨o, ho⟩ := Option.ne_none_iff_exists'.1 ((Header.order_of_order ord).symm ▸ code : r.hdr.order ≠ none)
    have tooMany : r.hdr.count.toNat = 0 ∨ u.maxCount r.hdr.command < r.hdr.count.toNat := by
      simp only [ord, State.maxCount]; omega
    simp [State.laterSteps, leg, Header.stepOrder_of_some ho, State.stepCount_of_outside tooMany]
  case address =>
    refine stop (known c.1) ?_
    have outside : r.hdr.inOneRegion = false := by
      rw [Bool.eq_false_iff, ne_eq, Header.inOneRegion_iff, covered c]
      rintro ⟨some, all⟩
      obtain ⟨k, hk, e | e⟩ := out
      · exact some (all k hk ▸ e)
      · exact e (all k hk)
    simp [State.laterSteps, legal c.1, order c.1, count c, Header.stepAddress_of_outside (accesses c.1) outside]
  case span =>
    refine stop (known one.1.1) ?_
    have twoPages : ¬logicalPage r.hdr.address.toNat = logicalPage r.hdr.last := by
      rw [Header.page_eq_iff ((regionOf_eq_store_iff _).1 st), covered one.1]
      omega
    have address : r.hdr.stepAddress = some (.refuse .badSpan) := by
      simp [Header.stepAddress, accesses one.1.1, inside one, Header.toStore, show regionOf r.hdr.address.toNat = _ from st,
        twoPages]
    simp [State.laterSteps, legal one.1.1, order one.1.1, count one.1, address]
  case readOnly =>
    refine stop (known one.1.1) ?_
    obtain ⟨k, hk, e⟩ := ro
    have marked : readOnlyWord (r.hdr.address.toNat + k) = true := (readOnlyWord_iff _).2 e
    have notStored : r.hdr.toStore = false := by
      refine decide_eq_false fun st => ?_
      exact absurd (marked.symm.trans (readOnlyWord_of_store ((one.2.2 k hk).trans st))) (by simp)
    have any : r.hdr.coveredWords.any readOnlyWord = true :=
      (Header.coveredWords_any_iff _ _).2 ⟨k, (covered one.1).symm ▸ hk, marked⟩
    have address : r.hdr.stepAddress = some (.refuse .readOnly) := by
      simp only [Header.stepAddress, inside one, notStored, any, write]
      rfl
    simp [State.laterSteps, legal one.1.1, order one.1.1, count one.1, address]
  case enables =>
    have w' := w.1.1.1
    refine stop (known w') ?_
    have enables : r.hdr.stepEnables = some (.refuse .badEnables) := by
      rw [Header.stepEnables, if_pos]
      have part : ¬(r.hdr.firstEn = 0xF ∧ r.hdr.lastEn = 0xF) := part
      simpa [w.2.1, notStore w] using not_and_or.1 part
    simp [State.laterSteps, legal w', order w', count w.1.1, address w, enables]
  case value =>
    have w' := w.1.1.1
    refine stop (known w') ?_
    have any : r.writes.any (fun p => badValue p.1 p.2) = true := by
      obtain ⟨k, hk, e⟩ := out
      exact (Request.writes_any_iff _).2 ⟨k, hk, (badValue_iff _ _).2 e⟩
    have value : r.stepValue = some (.refuse .badValue) := by
      simp [Request.stepValue_of_write w.2.1, notStore w, any]
    simp [State.laterSteps, legal w', order w', count w.1.1, address w, Header.stepEnables_of_whole wh.1 wh.2, value]

end Sys2Proof.Machine
end

section
/-! SUPPORT. The orders (O42, O43, O45, O46, O48, O49): an order that passes the steps of R16 is executed with its effect. -/

namespace Sys2Proof.Machine

set_option Elab.async false

open Sys2Proof (Instr Word Bank)

/-! ## Executed requests -/

theorem State.remember_of_remembered {u : State} {r : Request} (h : r.hdr.remembered = true) :
    u.remember r = { u with link := { u.link with mem := r.memory } } := by
  simp only [State.remember, h, if_true]
  rfl

theorem State.remember_of_not_remembered {u : State} {r : Request} (h : r.hdr.remembered = false) : u.remember r = u := by
  simp [State.remember, h]

section
variable {c : Instr} {s : State} {r : Request}

/-- A request row on a DIRECT request with a fresh data block that no later step stops: it is executed. -/
theorem exec_of_executed (row : rowBlock c = some r.block) (fresh : s.hearsFresh r) (serves : rowServes c r.hdr)
    (passes : s.atPoint.laterSteps r = none) :
    exec c s = .next (s.atPoint.executed (effectOf c r (s.atPoint.recordValidation r.hdr)) r) := by
  obtain ⟨hears, direct, block, check, new⟩ := fresh
  have verdict : s.atPoint.verdict r = .accept := by
    rw [State.verdict_of_direct direct (Command.unused_of_hasBlock block) (fun _ => ⟨check, new⟩), passes]
    rfl
  rw [exec_of_verdict row hears serves (by simp [direct]) verdict]
  exact congrArg (fun x => Host.Outcome.next (s.atPoint.answering x r .accept))
    (State.remember_of_remembered (by simp [Header.remembered, direct, block]))

/-- A request row on a DIRECT request with a fresh data block that a later step stops. -/
theorem exec_of_stopped {why : Reason} (row : rowBlock c = some r.block) (fresh : s.hearsFresh r)
    (serves : rowServes c r.hdr) (stop : s.atPoint.laterSteps r = some (.refuse why)) :
    exec c s = .next (s.atPoint.answering (s.atPoint.settle (effectOf c r) r (.refuse why)) r (.refuse why)) := by
  obtain ⟨hears, direct, block, check, new⟩ := fresh
  exact exec_of_verdict row hears serves (by simp [direct])
    (State.verdict_of_stop direct (Command.unused_of_hasBlock block) (fun _ => ⟨check, new⟩) stop)

end

/-! ## The steps of an order -/

section
variable {u : State} {r : Request} {o : Order}

theorem Request.orders_carries (h : r.orders o) : r.hdr.carries o := ⟨h.1, h.2.1⟩

theorem State.stepLocked_order (orders : r.orders o) (unlocked : o = .commit → u.sct.commit = none) :
    u.stepLocked r.hdr = none := by
  unfold State.stepLocked
  by_cases commit : o = .commit
  · simp [orders.1, unlocked commit]
  · simp [orders.1, Request.orders_order orders, commit]

theorem State.stepLocked_commit (orders : r.orders .commit) (pending : u.sct.commit ≠ none) :
    u.stepLocked r.hdr = some (.refuse .locked) := by
  unfold State.stepLocked
  simp [orders.1, Request.orders_order orders, Option.isSome_iff_ne_none, pending]

theorem Request.stepValue_order (orders : r.orders o) (value : o = .stopRun → r.param = 0 ∨ r.param = 1) :
    r.stepValue = none := by
  unfold Request.stepValue
  rw [if_neg (by simp [orders.1]), Request.orders_order orders]
  by_cases stop : o = .stopRun
  · rw [if_pos (congrArg some stop), if_pos (value stop)]
  · rw [if_neg (by simpa using stop), if_neg (by simp [orders.1])]

theorem State.stepBusy_order (command : r.hdr.command = .order) : u.stepBusy r.hdr = none := by
  simp [State.stepBusy, State.neededPage, command, Command.accessesWords]

/-- An order that is legal, with a good value and no lock in its way, comes to step 15 (R16). -/
theorem State.laterSteps_order (orders : r.orders o) (legal : u.stepLegal r.hdr = none)
    (value : o = .stopRun → r.param = 0 ∨ r.param = 1) (unlocked : o = .commit → u.sct.commit = none) :
    u.laterSteps r = u.stepPrecondition r.hdr := by
  have count : u.stepCount r.hdr = none :=
    State.stepCount_of_fits (by simp [orders.2.2]) (by simp [orders.2.2, orders.1, State.maxCount])
  have address : r.hdr.stepAddress = none := Header.stepAddress_of_no_words (by simp [orders.1, Command.accessesWords])
  simp [State.laterSteps, legal, Header.stepOrder_of_some (Request.orders_order orders), count, address,
    Header.stepEnables_of_not_write (h := r.hdr) (by simp [orders.1]), Request.stepValue_order orders value,
    State.stepLocked_order orders unlocked, State.stepBusy_order orders.1]

theorem State.validates_order (orders : r.orders o) (commit : o ≠ .commit) (start : o ≠ .startRun) :
    u.validates r.hdr = none := by
  simp [State.validates, Request.orders_order orders, commit, start]

theorem State.stepPrecondition_order (orders : r.orders o) (commit : o ≠ .commit) (start : o ≠ .startRun) :
    u.stepPrecondition r.hdr = none := by
  simp [State.stepPrecondition, State.validates_order orders commit start, Request.orders_order orders, start]

theorem State.stepPrecondition_validated {ofActive : Bool} (validates : u.validates r.hdr = some ofActive) :
    u.stepPrecondition r.hdr = if (u.validate ofActive).result = .valid then none else some (.refuse .badTable) := by
  unfold State.stepPrecondition
  rw [validates, if_neg]
  intro failed
  simp only [Bool.and_eq_true, decide_eq_true_eq, Bool.not_eq_true'] at failed
  simp [State.validates, failed.1, failed.2] at validates

theorem State.stepLegal_orders (orders : r.orders o) (mode : u.ctl.mode = .setup ∨ u.ctl.mode = .run)
    (stop : o = .stopRun → u.ctl.mode = .run) (needs : o.needsSetup = true → u.ctl.mode = .setup)
    (start : o = .startRun → u.ident.nodeId ≠ 0) : u.stepLegal r.hdr = none := by
  rcases mode with mode | mode
  · exact State.stepLegal_order_setup mode (Request.orders_order orders)
      (fun e => by simp [stop e] at mode) start
  · refine State.stepLegal_order_run mode orders.1 (Request.orders_order orders) ?_
    rw [Bool.eq_false_iff]
    intro e
    simp [needs e] at mode

end

/-- An order that validates no table is executed when it is legal and has a good value. -/
theorem exec_order {c : Instr} {s : State} {r : Request} {o : Order} (row : rowBlock c = some r.block)
    (serves : rowServes c r.hdr) (fresh : s.hearsFresh r) (orders : r.orders o) (commit : o ≠ .commit)
    (start : o ≠ .startRun) (legal : s.atPoint.stepLegal r.hdr = none)
    (value : o = .stopRun → r.param = 0 ∨ r.param = 1) :
    exec c s = .next (s.atPoint.executed (effectOf c r s.atPoint) r) := by
  rw [exec_of_executed row fresh serves (by
      rw [State.laterSteps_order orders legal value (fun e => absurd e commit),
        State.stepPrecondition_order orders commit start]),
    State.recordValidation_of_none (State.validates_order orders commit start)]

/-! ## START_RUN and STOP_RUN -/

/-- Settles O42: by the three cases of step 15. -/
theorem startRunEntersRun : Obligations.StartRunEntersRun := by
  intro s r fresh orders u mode named checked
  have serves := Request.orders_carries orders
  have later : u.laterSteps r = u.stepPrecondition r.hdr :=
    State.laterSteps_order orders
      (State.stepLegal_orders orders (.inl mode) (fun e => nomatch e) (fun _ => mode) (fun _ => named))
      (fun e => nomatch e) (fun e => nomatch e)
  have order := Request.orders_order orders
  have validates (passed : u.ctl.testPassed = true) : u.validates r.hdr = some true := by
    simp [State.validates, order, passed]
  refine ⟨fun failed => ?failed, fun passed invalid => ?invalid, fun passed valid => ?valid⟩
  case failed =>
    rw [exec_of_stopped (c := .startRun r.block) (why := .testFailed) rfl fresh serves
      (later.trans (by simp [State.stepPrecondition, order, failed])),
      State.settle_refuse _ _ _ (by simp) (by simp)]
  case invalid =>
    rw [exec_of_stopped (c := .startRun r.block) (why := .badTable) rfl fresh serves
      (later.trans (by rw [State.stepPrecondition_validated (validates passed), if_neg invalid]))]
    exact congrArg (fun x => Host.Outcome.next (u.answering x r (.refuse .badTable)))
      (State.recordValidation_of_some (validates passed))
  case valid =>
    rw [exec_of_executed (c := .startRun r.block) rfl fresh serves
      (later.trans (by rw [State.stepPrecondition_validated (validates passed), if_pos valid])),
      State.recordValidation_of_some (validates passed)]
    rfl

/-- Settles O43: by the kind of stop, what is pending and where the walk stands. -/
theorem stopRunStopsOrWaits : Obligations.StopRunStopsOrWaits := by
  intro s r fresh orders u mode done now atFrame
  have serves := Request.orders_carries orders
  have legal : u.stepLegal r.hdr = none :=
    State.stepLegal_orders orders (.inr mode) (fun _ => mode) (fun e => nomatch e) (fun e => nomatch e)
  have executed (value : r.param = 0 ∨ r.param = 1) : exec (.stopRun r.block) s = done (applyStopRun r u) :=
    exec_order (c := .stopRun r.block) rfl serves fresh orders (by simp) (by simp) legal fun _ => value
  have stopsNow (h : now) : exec (.stopRun r.block) s = done u.stopNow := by
    have param : r.param = 0 := by rw [Request.param, show r.words = [0] from h]; rfl
    rw [executed (.inl param), applyStopRun, if_pos param]
  have stopsAtFrame (h : atFrame) : exec (.stopRun r.block) s = done u.stopAtFrame := by
    have param : r.param = 1 := by rw [Request.param, show r.words = [1] from h]; rfl
    rw [executed (.inr param), applyStopRun, if_neg (by rw [param]; decide)]
  refine ⟨fun h pending => ?_, fun h none walking inSlot => ?_, fun h none free => ?_, fun h pending => ?_,
    fun h none waits => ?_, fun h none busy => ?_, fun w words big => ?_⟩
  · rw [stopsNow h, State.stopNow, if_pos pending]
  · rw [stopsNow h, State.stopNow, if_neg none, if_pos (by simp [walking, inSlot])]
  · rw [stopsNow h, State.stopNow, if_neg none, if_neg (by rcases free with e | e <;> simp [e])]
  · rw [stopsAtFrame h, State.stopAtFrame, if_pos (Option.isSome_iff_ne_none.2 pending)]
  · rw [stopsAtFrame h, State.stopAtFrame, if_neg (by simp [none]), if_pos waits]
  · rw [stopsAtFrame h, State.stopAtFrame, if_neg (by simp [none]), if_neg busy]
  · have param : r.param = w := by rw [Request.param, words]; rfl
    have value : r.stepValue = some (.refuse .badValue) := by
      rw [Request.stepValue, if_neg (by simp [orders.1]), if_pos (Request.orders_order orders), if_neg]
      rintro (e | e) <;> simp [← param, e] at big
    have stop : u.laterSteps r = some (.refuse .badValue) := by
      have count : u.stepCount r.hdr = none :=
        State.stepCount_of_fits (by simp [orders.2.2]) (by simp [orders.2.2, orders.1, State.maxCount])
      have address : r.hdr.stepAddress = none :=
        Header.stepAddress_of_no_words (by simp [orders.1, Command.accessesWords])
      simp [State.laterSteps, legal, Header.stepOrder_of_some (Request.orders_order orders), count, address,
        Header.stepEnables_of_not_write (h := r.hdr) (by simp [orders.1]), value]
    rw [exec_of_stopped (c := .stopRun r.block) rfl fresh serves stop, State.settle_refuse _ _ _ (by simp) (by simp)]

/-! ## RUN_SELFTEST, DISCARD_STAGED, CLEAR_MUTE, LOG_RESET -/

/-- Settles O46. -/
theorem runSelftestBeginsTest : Obligations.RunSelftestBeginsTest := by
  intro s r fresh orders u mode
  exact exec_order (c := .runSelftest r.block) rfl (Request.orders_carries orders) fresh orders (by simp) (by simp)
    (State.stepLegal_orders orders (.inl mode) (fun e => nomatch e) (fun _ => mode) (fun e => nomatch e))
    (fun e => nomatch e)

/-- Settles O49: each of the three orders is legal in SETUP and RUN. -/
theorem discardClearMuteLogReset : Obligations.DiscardClearMuteLogReset := by
  intro s r fresh u mode
  refine ⟨fun orders => ?_, fun orders => ?_, fun orders => ?_⟩
  · exact exec_order (c := .discardStaged r.block) rfl (Request.orders_carries orders) fresh orders (by simp) (by simp)
      (State.stepLegal_orders orders mode (fun e => nomatch e) (fun e => nomatch e) (fun e => nomatch e))
      (fun e => nomatch e)
  · rw [exec_order (c := .clearMute r.block) rfl (Request.orders_carries orders) fresh orders (by simp) (by simp)
      (State.stepLegal_orders orders mode (fun e => nomatch e) (fun e => nomatch e) (fun e => nomatch e))
      (fun e => nomatch e)]
    have unmute : (u.lane.unmute || (decide (u.ctl.mode = .run) && u.lane.muted)) =
        if u.ctl.mode = .run ∧ u.lane.muted = true then true else u.lane.unmute := by
      by_cases run : u.ctl.mode = .run <;> cases u.lane.muted <;> simp [run]
    rw [← unmute]
    rfl
  · exact exec_order (c := .logReset r.block) rfl (Request.orders_carries orders) fresh orders (by simp) (by simp)
      (State.stepLegal_orders orders mode (fun e => nomatch e) (fun e => nomatch e) (fun e => nomatch e))
      (fun e => nomatch e)

/-! ## COMMIT -/

theorem targetIsLate_iff (target current : BitVec 16) :
    targetIsLate target current = true ↔ (target - current).toNat = 0 ∨ 32768 ≤ (target - current).toNat := by
  have : target = current ↔ (target - current).toNat = 0 := by
    constructor
    · rintro rfl; simp
    · intro h
      bv_omega
  simp [targetIsLate, this]

theorem State.swapTables_of_no_commit {u : State} (none : u.sct.commit = none) (cause : SwapCause) :
    u.swapTables cause =
      { u with sct := { u.sct with firstActive := !u.sct.firstActive } }.raise .tableSwapped
        (cause.code ++ BitVec.ofNat 8 (u.sct.staged.length - 1)) := by
  have swap : u.sct.swap = { u.sct with firstActive := !u.sct.firstActive } := by rw [Tables.swap, ← none]
  rw [← u.sct.swap_roles.1, State.swapTables, swap]
  rfl

/-- Settles O48: step 14, step 15, then what `applyCommit` does in SETUP and in RUN. -/
theorem commitSwapsOrWaits : Obligations.CommitSwapsOrWaits := by
  intro s r w fresh orders words u mode checked target targeted ahead held
  have serves := Request.orders_carries orders
  have order := Request.orders_order orders
  have legal : u.stepLegal r.hdr = none :=
    State.stepLegal_orders orders mode (fun e => nomatch e) (fun e => nomatch e) (fun e => nomatch e)
  have validates : u.validates r.hdr = some false := by simp [State.validates, order]
  have later (none : u.sct.commit = none) : u.laterSteps r = u.stepPrecondition r.hdr :=
    State.laterSteps_order orders legal (fun e => nomatch e) (fun _ => none)
  have param : r.param = w := by rw [Request.param, words]; rfl
  have executed (none : u.sct.commit = none) (valid : (u.validate false).result = .valid) :
      exec (.commit r.block) s = .next (u.executed (applyCommit r checked) r) := by
    rw [exec_of_executed (c := .commit r.block) rfl fresh serves
      ((later none).trans (by rw [State.stepPrecondition_validated validates, if_pos valid])),
      State.recordValidation_of_some validates]
    rfl
  have running (none : u.sct.commit = none) (valid : (u.validate false).result = .valid) (run : u.ctl.mode = .run) :
      exec (.commit r.block) s = .next (u.executed (checked.holdCommit w) r) := by
    rw [executed none valid, applyCommit, if_pos run, param]
  refine ⟨fun pending => ?locked, fun none invalid => ?invalid, fun none valid setup => ?now,
    fun none valid run inTime => ?held, fun none valid run aimed late => ?late⟩
  case locked =>
    have count : u.stepCount r.hdr = none :=
      State.stepCount_of_fits (by simp [orders.2.2]) (by simp [orders.2.2, orders.1, State.maxCount])
    have address : r.hdr.stepAddress = none := Header.stepAddress_of_no_words (by simp [orders.1, Command.accessesWords])
    have stop : u.laterSteps r = some (.refuse .locked) := by
      simp [State.laterSteps, legal, Header.stepOrder_of_some order, count, address,
        Header.stepEnables_of_not_write (h := r.hdr) (by simp [orders.1]),
        Request.stepValue_order orders (fun e => nomatch e), State.stepLocked_commit orders pending]
    rw [exec_of_stopped (c := .commit r.block) rfl fresh serves stop, State.settle_refuse _ _ _ (by simp) (by simp)]
  case invalid =>
    rw [exec_of_stopped (c := .commit r.block) (why := .badTable) rfl fresh serves
      ((later none).trans (by rw [State.stepPrecondition_validated validates, if_neg invalid]))]
    exact congrArg (fun x => Host.Outcome.next (u.answering x r (.refuse .badTable)))
      (State.recordValidation_of_some validates)
  case now =>
    rw [executed none valid, applyCommit, if_neg (by simp [checked, setup]),
      State.swapTables_of_no_commit (u := checked) none]
    rfl
  case held =>
    have notLate : (targeted && targetIsLate target u.lane.frame) = false := by
      rcases inTime with e | ⟨lo, hi⟩
      · simp [e]
      · rw [Bool.and_eq_false_iff]
        right
        rw [Bool.eq_false_iff, ne_eq, targetIsLate_iff]
        omega
    have commit : pendingCommit w u.lane.frame = ⟨targeted, target, false⟩ := by rw [pendingCommit, ← notLate]
    rw [running none valid run, State.holdCommit, show pendingCommit w checked.lane.frame = _ from commit]
    rfl
  case late =>
    have isLate : (targeted && targetIsLate target u.lane.frame) = true := by
      rw [aimed, Bool.true_and, targetIsLate_iff]
      exact late
    have commit : pendingCommit w u.lane.frame = ⟨targeted, target, true⟩ := by rw [pendingCommit, ← isLate]
    rw [running none valid run, State.holdCommit, show pendingCommit w checked.lane.frame = _ from commit]
    rfl

end Sys2Proof.Machine
end

section
/-! SUPPORT. READ, WRITE and SET_ID (O29, O30, O34, O38, O39): the later steps of a request that names words. -/

namespace Sys2Proof.Machine

set_option Elab.async false

open Sys2Proof (Instr Word Bank)

/-! ## The later steps of a READ or WRITE -/

section
variable {u : State} {r : Request}

theorem State.recordValidation_of_not_order {h : Header} (command : h.command ≠ .order) : u.recordValidation h = u :=
  State.recordValidation_of_none (by simp [State.validates, Header.order_of_not_order command])

theorem State.stepPrecondition_of_not_order {h : Header} (command : h.command ≠ .order) :
    u.stepPrecondition h = none := by
  simp [State.stepPrecondition, State.validates, Header.order_of_not_order command]

/-- A READ or WRITE of words in one region comes to step 12 (R16). -/
theorem State.laterSteps_words (words : r.hdr.command = .read ∨ r.hdr.command = .write)
    (legal : u.stepLegal r.hdr = none) (lo : 1 ≤ r.hdr.count.toNat) (hi : r.hdr.count.toNat ≤ 64)
    (assigned : regionOf r.hdr.address.toNat ≠ none)
    (region : ∀ k < r.hdr.count.toNat, regionOf (r.hdr.address.toNat + k) = regionOf r.hdr.address.toNat)
    (page : r.hdr.namesStore → r.hdr.address.toNat % 128 + r.hdr.count.toNat ≤ 128)
    (writable : r.hdr.command = .write → ∀ k < r.hdr.count.toNat, readOnlyWord (r.hdr.address.toNat + k) = false) :
    u.laterSteps r = r.hdr.stepEnables.or (r.stepValue.or ((u.stepLocked r.hdr).or (u.stepBusy r.hdr))) := by
  have notOrder : r.hdr.command ≠ .order := by rcases words with e | e <;> simp [e]
  have covered : max 1 r.hdr.count.toNat = r.hdr.count.toNat := Nat.max_eq_right lo
  have address : r.hdr.stepAddress = none := by
    refine Header.stepAddress_of_inside ((Command.accessesWords_iff _).2 words)
      ((Header.inOneRegion_iff _).2 ⟨assigned, covered.symm ▸ region⟩) (fun stored => ?_) (fun write => ?_)
    · have stored := r.hdr.toStore_iff.1 stored
      exact (Header.page_eq_iff stored).2 (covered.symm ▸ page stored)
    · rw [Bool.eq_false_iff, ne_eq, Header.coveredWords_any_iff, covered]
      rintro ⟨k, hk, e⟩
      exact absurd (e.symm.trans (writable write k hk)) (by simp)
  simp [State.laterSteps, legal, Header.stepOrder_of_not_order notOrder,
    State.stepCount_of_fits (u := u) lo (State.maxCount_of_words (u := u) words ▸ hi), address,
    State.stepPrecondition_of_not_order notOrder]

theorem Request.stepValue_of_read (command : r.hdr.command = .read) : r.stepValue = none := by
  simp [Request.stepValue, Header.order, command]

theorem State.stepLocked_of_read {h : Header} (command : h.command = .read) : u.stepLocked h = none := by
  unfold State.stepLocked
  simp [Header.order, command]

/-- A READ in one region comes to step 16. -/
theorem State.laterSteps_read (read : r.hdr.command = .read)
    (legal : u.stepLegal r.hdr = none) (lo : 1 ≤ r.hdr.count.toNat) (hi : r.hdr.count.toNat ≤ 64)
    (assigned : regionOf r.hdr.address.toNat ≠ none)
    (region : ∀ k < r.hdr.count.toNat, regionOf (r.hdr.address.toNat + k) = regionOf r.hdr.address.toNat)
    (page : r.hdr.namesStore → r.hdr.address.toNat % 128 + r.hdr.count.toNat ≤ 128) :
    u.laterSteps r = u.stepBusy r.hdr := by
  rw [State.laterSteps_words (.inl read) legal lo hi assigned region page (fun e => by simp [e] at read),
    Header.stepEnables_of_not_write (by simp [read]), Request.stepValue_of_read read, State.stepLocked_of_read read]
  simp

theorem State.stepBusy_of_no_store {h : Header} (words : h.command = .read ∨ h.command = .write)
    (free : h.toStore = false) : u.stepBusy h = none := by
  simp [State.stepBusy, State.neededPage, (Command.accessesWords_iff _).2 words, free]

theorem State.neededPage_of_store {h : Header} (words : h.command = .read ∨ h.command = .write)
    (stored : h.toStore = true) : u.neededPage h = some (logicalPage h.address.toNat) := by
  simp [State.neededPage, (Command.accessesWords_iff _).2 words, stored]

theorem State.stepBusy_of_needed {h : Header} {p : Nat} (needed : u.neededPage h = some p) :
    u.stepBusy h = if u.stl.pageOpen p then none else some (.defer 2) := by
  rw [State.stepBusy, needed]

theorem Store.pageOpen_iff (t : Store) (p : Nat) :
    t.pageOpen p = true ↔ t.bank (t.bankOf p) = .opened (t.physicalPage p) := decide_eq_true_iff

/-- What a request deferred for its page does to the node (R122). -/
theorem State.openNeeded_of_needed {h : Header} {p : Nat} (needed : u.neededPage h = some p) :
    u.openNeeded h =
      if (u.stl.bank (u.stl.bankOf p)).isOpening = true ∨ u.stl.claims (u.stl.bankOf p) = true then u
      else { u with stl := u.stl.setBank (u.stl.bankOf p) (.opening (u.stl.physicalPage p) 20) } := by
  simp only [State.openNeeded, needed, Store.openForDeferred, Bool.or_eq_true]
  split <;> rfl

end

/-! ## READ -/

/-- Settles O29: no later step stops such a READ. -/
theorem readReturnsSnapshot : Obligations.ReadReturnsSnapshot := by
  intro s h hears read addressing lo hi assigned free region u frames selftest
  have notStored : ¬h.namesStore := fun st => free ((regionOf_eq_store_iff _).2 st)
  have notOrder : h.command ≠ .order := by simp [read]
  have legal : u.stepLegal h = none := by
    cases mode : u.ctl.mode with
    | selftest =>
      have := selftest mode
      rw [State.stepLegal_selftest mode, Header.legalInSelftest, if_pos]
      simp only [read, decide_true, Bool.true_and, Header.within_iff]
      omega
    | setup => exact State.stepLegal_of_not_order (.inl mode) notOrder (fun _ => mode)
    | run => exact State.stepLegal_of_not_order (.inr mode) notOrder (fun e => by simp [read] at e)
    | reset => simp [Mode.frames, mode] at frames
    | quiet => simp [Mode.frames, mode] at frames
  have passes : u.laterSteps ⟨h, [], 0⟩ = none := by
    rw [State.laterSteps_read (r := ⟨h, [], 0⟩) read legal lo hi assigned region (fun st => absurd st notStored)]
    exact State.stepBusy_of_no_store (.inl read) (by simpa [← h.toStore_iff] using notStored)
  have noBlock : h.command.hasBlock = false := by simp [read, Command.hasBlock]
  have verdict : u.verdict ⟨h, [], 0⟩ = .accept := by
    rw [State.verdict_of_later (r := ⟨h, [], 0⟩) (by simp [noBlock]) (by simp [noBlock]) (by simp [read, Command.unused]),
      passes]
    · rfl
    · intro chain
      have inside : h.address.toNat + h.count.toNat ≤ 0x004 := by
        rcases addressing with e | ⟨-, e⟩
        · simp [e] at chain
        · exact e
      simp only [Header.chainAllowed, read, decide_true, Bool.true_and, Bool.or_eq_true, Header.within_iff]
      omega
  constructor
  · rw [exec_of_verdict (c := .read) (r := ⟨h, [], 0⟩) rfl hears ⟨read, notStored⟩
      (by rcases addressing with e | ⟨e, -⟩ <;> simp [e]) verdict]
    refine congrArg (fun x => Host.Outcome.next (u.answering x ⟨h, [], 0⟩ .accept)) ?_
    change (u.recordValidation h).remember ⟨h, [], 0⟩ = u
    rw [State.recordValidation_of_not_order notOrder, State.remember_of_not_remembered]
    simp [Header.remembered, noBlock]
  · simp [State.replyFor, State.replyData, read, State.readWords]

/-- The words of one page of the store lie in the store (R121). -/
theorem regionOf_page {a n : Nat} (lo : 0x4000 ≤ a) (hi : a ≤ 0x7FFF) (page : a % 128 + n ≤ 128) :
    ∀ k < n, regionOf (a + k) = some .store := by
  intro k hk
  rw [regionOf_eq_store_iff]
  omega

/-- Settles O30: only step 16 can stop such a READ. -/
theorem storeReadNeedsOpenPage : Obligations.StoreReadNeedsOpenPage := by
  intro s h hears read direct one many lo hi inPage u p bank mode
  have stored : regionOf h.address.toNat = some .store := (regionOf_eq_store_iff _).2 ⟨lo, hi⟩
  have region := regionOf_page lo hi inPage
  have notOrder : h.command ≠ .order := by simp [read]
  have needed : u.neededPage h = some p := State.neededPage_of_store (.inl read) (decide_eq_true stored)
  have later : u.laterSteps ⟨h, [], 0⟩ = if u.stl.pageOpen p then none else some (.defer 2) := by
    rw [State.laterSteps_read (r := ⟨h, [], 0⟩) read (State.stepLegal_of_not_order mode notOrder (by simp [read])) one many
      (by simp [stored]) (fun k hk => (region k hk).trans stored.symm) (fun _ => inPage),
      State.stepBusy_of_needed needed]
  have noBlock : h.command.hasBlock = false := by simp [read, Command.hasBlock]
  have verdict : u.verdict ⟨h, [], 0⟩ = (u.laterSteps ⟨h, [], 0⟩).getD .accept :=
    State.verdict_of_direct (r := ⟨h, [], 0⟩) direct (by simp [read, Command.unused]) (by simp [noBlock])
  have row {v : Verdict} (e : u.verdict ⟨h, [], 0⟩ = v) :=
    exec_of_verdict (c := .storeRead) (r := ⟨h, [], 0⟩) rfl hears ⟨read, lo, hi⟩ (by simp [direct]) e
  have deferred (shut : u.stl.bank bank ≠ .opened (u.stl.physicalPage p)) : u.verdict ⟨h, [], 0⟩ = .defer 2 := by
    rw [verdict, later, if_neg (by rwa [Store.pageOpen_iff])]
    rfl
  refine ⟨fun isOpen => ⟨?_, ?_⟩, fun shut busy => ?_, fun shut quiet unclaimed => ?_⟩
  · rw [row (v := .accept) (by rw [verdict, later, if_pos ((Store.pageOpen_iff _ _).2 isOpen)]; rfl)]
    refine congrArg (fun x => Host.Outcome.next (u.answering x ⟨h, [], 0⟩ .accept)) ?_
    change (u.recordValidation h).remember ⟨h, [], 0⟩ = u
    rw [State.recordValidation_of_not_order notOrder, State.remember_of_not_remembered]
    simp [Header.remembered, noBlock]
  · have words : u.readWords h = (List.range h.count.toNat).map fun k => u.stl.readWord (h.address.toNat + k) := by
      refine List.map_congr_left fun k hk => ?_
      rw [State.readWord, region k (List.mem_range.1 hk)]
    simp [State.replyFor, State.replyData, read, words]
  · rw [row (deferred shut)]
    exact congrArg (fun x => Host.Outcome.next (u.answering x ⟨h, [], 0⟩ (.defer 2)))
      ((State.openNeeded_of_needed needed).trans (if_pos busy))
  · rw [row (deferred shut)]
    exact congrArg (fun x => Host.Outcome.next (u.answering x ⟨h, [], 0⟩ (.defer 2)))
      ((State.openNeeded_of_needed needed).trans (if_neg
        (not_or.2 ⟨Bool.eq_false_iff.1 quiet, Bool.eq_false_iff.1 unclaimed⟩)))

/-! ## WRITE -/

section
variable {u : State} {r : Request}

theorem State.stepLocked_of_write {h : Header} (command : h.command = .write) :
    u.stepLocked h =
      if (match regionOf h.address.toNat with
        | some .activeWindow => decide (u.ctl.mode = .run)
        | some .stagedWindow => u.sct.commit.isSome
        | some .channelTable => decide (u.ctl.mode = .run)
        | some .registers => decide (u.ctl.mode = .run) && h.covers 0x018 0x018
        | some .store => u.stl.pageInLog (logicalPage h.address.toNat)
        | _ => false) = true then some (.refuse .locked) else none := by
  unfold State.stepLocked
  simp [Header.order, command] <;> rfl

/-- No later step stops a WRITE that fits (R16). -/
theorem State.laterSteps_of_fits (fits : u.WriteFits r) : u.laterSteps r = none := by
  have notStored : ¬r.hdr.namesStore := fun st => fits.region.2.1 ((regionOf_eq_store_iff _).2 st)
  have free : r.hdr.toStore = false := by simpa [← r.hdr.toStore_iff] using notStored
  have legal : u.stepLegal r.hdr = none :=
    State.stepLegal_of_not_order fits.mode (by simp [fits.command]) (by simp [fits.command])
  have value : r.stepValue = none := by
    rw [Request.stepValue_of_write fits.command, if_neg]
    simp only [Bool.and_eq_true, Request.writes_any_iff, not_and, not_exists]
    intro _ k hk e
    exact absurd (e.symm.trans (fits.values k hk)) (by simp)
  have unlocked : u.stepLocked r.hdr = none := by
    rw [State.stepLocked_of_write fits.command, if_neg]
    cases region : regionOf r.hdr.address.toNat with
    | none => simp
    | some x =>
      cases x with
      | activeWindow => simpa using fun run => (fits.unlocked run).1 region
      | channelTable => simpa using fun run => (fits.unlocked run).2.1 region
      | stagedWindow => exact fun pending => fits.unfrozen pending region
      | store => exact absurd region fits.region.2.1
      | registers =>
        simp only [Bool.and_eq_true, decide_eq_true_eq, Header.covers_iff, Header.touches, not_and]
        intro run below above
        have := fits.count.1
        refine (fits.unlocked run).2.2 region (0x018 - r.hdr.address.toNat) ?_ ?_ <;> omega
      | _ => simp
  rw [State.laterSteps_words (.inr fits.command) legal fits.count.1 fits.count.2 fits.region.1 fits.region.2.2
    (fun st => absurd st notStored) (fun _ => fits.writable),
    Header.stepEnables_of_whole fits.enables.1 fits.enables.2, value, unlocked,
    State.stepBusy_of_no_store (.inr fits.command) free]
  rfl

end

/-- Settles O34: a WRITE that fits is executed by each row that it covers a word of. -/
theorem writeExecutesItsWordsInOrder : Obligations.WriteExecutesItsWordsInOrder := by
  refine ⟨fun s a w ws => ⟨rfl, rfl⟩, fun s r fresh fits => ?_⟩
  intro u done covers
  have notStored : ¬r.hdr.namesStore := fun st => fits.region.2.1 ((regionOf_eq_store_iff _).2 st)
  have touches {lo hi : Nat} (h : covers lo hi) : r.hdr.touches lo hi :=
    ⟨h.1, lt_of_lt_of_le h.2 (Nat.add_le_add_left (le_max_right _ _) _)⟩
  have writesTo {lo hi : Nat} (h : covers lo hi) : r.hdr.writesTo lo hi := ⟨fits.command, notStored, touches h⟩
  have effect : applyWrite r u = u.writeFrom r.hdr.address.toNat r.words := by
    rw [applyWrite, if_neg]
    simpa [← r.hdr.toStore_iff] using notStored
  have row {c : Instr} (block : rowBlock c = some r.block) (writes : effectOf c r = applyWrite r)
      (serves : rowServes c r.hdr) : exec c s = done := by
    rw [exec_of_executed block fresh serves (State.laterSteps_of_fits fits), writes,
      State.recordValidation_of_not_order (by simp [fits.command]), effect]
  refine ⟨fun h => ?plain, fun h => row rfl rfl (writesTo h), fun h => row rfl rfl (writesTo h),
    fun h => row rfl rfl (writesTo h), fun h => row rfl rfl (writesTo h), fun h => row rfl rfl (writesTo h),
    fun h => row rfl rfl (writesTo h), fun h => row rfl rfl (writesTo h), fun h => row rfl rfl (writesTo h),
    fun h => row rfl rfl (writesTo h), fun h => row rfl rfl (writesTo h), fun h => row rfl rfl (writesTo h),
    fun h lost => row (c := .clearLost r.block) rfl rfl ⟨writesTo h, lost⟩⟩
  refine row (c := .registerWrite r.block) rfl rfl ⟨fits.command, notStored, ?_⟩
  rcases h with h | h | h | h | h | h <;> simp [touches h]

end Sys2Proof.Machine
end

section
/-! SUPPORT. Several words written in a row: what a byte and a word of the store read afterwards (O37, O52, O59). -/

namespace Sys2Proof.Machine

set_option Elab.async false

open Sys2Proof (Word Octet Bank)

/-! ## One word -/

theorem Memory.read_writeEnabled_same {m : Memory} (en : Bool) (a : Nat) (v : Octet) (hw : m.wf = true) :
    (m.writeEnabled en a v).read a = if en = true then v else m.read a := by
  cases en
  · rfl
  · exact Memory.read_write_same a v hw

theorem Memory.read_writeEnabled_other {m : Memory} (en : Bool) {a b : Nat} (v : Octet) (hw : m.wf = true) (h : b ≠ a) :
    (m.writeEnabled en a v).read b = m.read b := by
  cases en
  · rfl
  · exact Memory.read_write_other v h hw

/-- An enabled byte of a written word takes its value, every other byte of it stays (R9). -/
theorem Memory.read_writeWord_same {m : Memory} (i : Nat) (en : BitVec 4) (w : Word) (hw : m.wf = true) {j : Nat}
    (hj : j < 4) :
    (m.writeWord i en w).read (4 * i + j) = if en.getLsbD j = true then w.extractLsb' (8 * j) 8 else m.read (4 * i + j) := by
  have w1 := Memory.writeEnabled_wf (en.getLsbD 0) (4 * i) (w.extractLsb' 0 8) hw
  have w2 := Memory.writeEnabled_wf (en.getLsbD 1) (4 * i + 1) (w.extractLsb' 8 8) w1
  have w3 := Memory.writeEnabled_wf (en.getLsbD 2) (4 * i + 2) (w.extractLsb' 16 8) w2
  unfold Memory.writeWord
  match j, hj with
  | 0, _ =>
    rw [Memory.read_writeEnabled_other _ _ w3 (by omega), Memory.read_writeEnabled_other _ _ w2 (by omega),
      Memory.read_writeEnabled_other _ _ w1 (by omega)]
    exact Memory.read_writeEnabled_same _ _ _ hw
  | 1, _ =>
    rw [Memory.read_writeEnabled_other _ _ w3 (by omega), Memory.read_writeEnabled_other _ _ w2 (by omega),
      Memory.read_writeEnabled_same _ _ _ w1, Memory.read_writeEnabled_other _ _ hw (by omega)]
  | 2, _ =>
    rw [Memory.read_writeEnabled_other _ _ w3 (by omega), Memory.read_writeEnabled_same _ _ _ w2,
      Memory.read_writeEnabled_other _ _ w1 (by omega), Memory.read_writeEnabled_other _ _ hw (by omega)]
  | 3, _ =>
    rw [Memory.read_writeEnabled_same _ _ _ w3, Memory.read_writeEnabled_other _ _ w2 (by omega),
      Memory.read_writeEnabled_other _ _ w1 (by omega), Memory.read_writeEnabled_other _ _ hw (by omega)]

/-! ## Several words -/

/-- The words written in a row: each with its place and its byte enables. -/
def Memory.writeAll (m : Memory) (l : List (Nat × BitVec 4 × Word)) : Memory :=
  l.foldl (fun m p => m.writeWord p.1 p.2.1 p.2.2) m

theorem Memory.writeAll_wf {m : Memory} (l : List (Nat × BitVec 4 × Word)) (hw : m.wf = true) :
    (m.writeAll l).wf = true := by
  induction l generalizing m with
  | nil => exact hw
  | cons p l ih => exact ih (Memory.writeWord_wf _ _ _ hw)

/-- A byte of no written word keeps its value. -/
theorem Memory.read_writeAll_other {m : Memory} {l : List (Nat × BitVec 4 × Word)} {b : Nat} (hw : m.wf = true)
    (h : ∀ p ∈ l, b / 4 ≠ p.1) : (m.writeAll l).read b = m.read b := by
  induction l generalizing m with
  | nil => rfl
  | cons p l ih =>
    have apart := h p (List.mem_cons_self ..)
    exact (ih (Memory.writeWord_wf _ _ _ hw) fun q hq => h q (List.mem_cons_of_mem _ hq)).trans
      (Memory.read_writeWord_other _ _ hw (by omega))

/-- Of words written at places that differ each holds what was written to it. -/
theorem Memory.read_writeAll_same {m : Memory} {l : List (Nat × BitVec 4 × Word)} (hw : m.wf = true)
    (apart : (l.map (·.1)).Nodup) {p : Nat × BitVec 4 × Word} (hp : p ∈ l) {j : Nat} (hj : j < 4) :
    (m.writeAll l).read (4 * p.1 + j) =
      if p.2.1.getLsbD j = true then p.2.2.extractLsb' (8 * j) 8 else m.read (4 * p.1 + j) := by
  induction l generalizing m with
  | nil => simp at hp
  | cons q l ih =>
    have wf := Memory.writeWord_wf q.1 q.2.1 q.2.2 hw
    simp only [List.map_cons, List.nodup_cons, List.mem_map, not_exists, not_and] at apart
    obtain ⟨fresh, apart⟩ := apart
    change ((m.writeWord q.1 q.2.1 q.2.2).writeAll l).read _ = _
    rcases List.mem_cons.1 hp with rfl | hp
    · rw [Memory.read_writeAll_other wf, Memory.read_writeWord_same _ _ _ hw hj]
      intro r hr e
      exact fresh r hr (by omega)
    · rw [ih wf apart hp, Memory.read_writeWord_other _ _ hw]
      have := fresh p hp
      omega

/-- A word reads as its four bytes. -/
theorem Memory.readWord_congr {m m' : Memory} {i i' : Nat} (h : ∀ j < 4, m.read (4 * i + j) = m'.read (4 * i' + j)) :
    m.readWord i = m'.readWord i' := by
  have h0 := h 0 (by omega)
  have h1 := h 1 (by omega)
  have h2 := h 2 (by omega)
  have h3 := h 3 (by omega)
  rw [Nat.add_zero, Nat.add_zero] at h0
  rw [Memory.readWord, Memory.readWord, h0, h1, h2, h3]

/-- A word is made of its four bytes. -/
theorem fieldAt_bytes (w : Word) :
    fieldAt 24 (w.extractLsb' 24 8) ||| fieldAt 16 (w.extractLsb' 16 8) ||| fieldAt 8 (w.extractLsb' 8 8)
      ||| fieldAt 0 (w.extractLsb' 0 8) = w := by
  refine BitVec.eq_of_getLsbD_eq fun i hi => ?_
  simp only [BitVec.getLsbD_or, getLsbD_fieldAt, BitVec.getLsbD_extractLsb']
  by_cases h8 : i < 8
  · simp [h8, hi, show ¬8 ≤ i by omega, show ¬16 ≤ i by omega, show ¬24 ≤ i by omega]
  · by_cases h16 : i < 16
    · simp [h8, hi, show ¬16 ≤ i by omega, show ¬24 ≤ i by omega, show 8 ≤ i by omega, show i - 8 < 8 by omega,
        show 8 + (i - 8) = i by omega]
    · by_cases h24 : i < 24
      · simp [h8, hi, show ¬24 ≤ i by omega, show ¬i - 8 < 8 by omega, show 16 ≤ i by omega, show i - 16 < 8 by omega,
          show 16 + (i - 16) = i by omega]
      · simp [h8, hi, show ¬i - 8 < 8 by omega, show ¬i - 16 < 8 by omega, show 24 ≤ i by omega,
          show i - 24 < 8 by omega, show 24 + (i - 24) = i by omega]

/-- A word whose bytes are those of `w` reads as `w`. -/
theorem Memory.readWord_of_bytes {m : Memory} {i : Nat} {w : Word}
    (h : ∀ j < 4, m.read (4 * i + j) = w.extractLsb' (8 * j) 8) : m.readWord i = w := by
  have h0 := h 0 (by omega)
  have h1 := h 1 (by omega)
  have h2 := h 2 (by omega)
  have h3 := h 3 (by omega)
  rw [Nat.add_zero] at h0
  rw [Memory.readWord, h0, h1, h2, h3]
  exact fieldAt_bytes w

theorem Memory.readWord_writeAll_other {m : Memory} {l : List (Nat × BitVec 4 × Word)} {i : Nat} (hw : m.wf = true)
    (h : ∀ p ∈ l, i ≠ p.1) : (m.writeAll l).readWord i = m.readWord i :=
  Memory.readWord_congr fun j hj => Memory.read_writeAll_other hw fun p hp => by
    have := h p hp
    omega

theorem Memory.readWord_writeAll_same {m : Memory} {l : List (Nat × BitVec 4 × Word)} (hw : m.wf = true)
    (apart : (l.map (·.1)).Nodup) {i : Nat} {w : Word} (hp : (i, 0xF, w) ∈ l) : (m.writeAll l).readWord i = w :=
  Memory.readWord_of_bytes fun j hj => by
    have enabled : ∀ j < 4, (0xF : BitVec 4).getLsbD j = true := by decide
    rw [Memory.read_writeAll_same (p := (i, 0xF, w)) hw apart hp hj, if_pos (enabled j hj)]

/-! ## The places of store words -/

/-- The bank number is the upper bit of the page, or the lower one when the map interleaves (R117). -/
theorem Store.bankNumber_bankOf (t : Store) {p : Nat} (h : p ≤ 127) :
    bankNumber (t.bankOf p) = if t.interleaved = true then p % 2 else p / 64 := by
  unfold Store.bankOf
  cases t.interleaved <;> simp only [Bool.false_eq_true, if_false, if_true] <;> split_ifs <;>
    simp only [bankNumber] <;> omega

/-- The map of the pages is one to one (R117). -/
theorem Store.page_injective (t : Store) {p q : Nat} (hp : p ≤ 127) (hq : q ≤ 127)
    (e : bankNumber (t.bankOf p) * 64 + t.physicalPage p = bankNumber (t.bankOf q) * 64 + t.physicalPage q) : p = q := by
  rw [t.bankNumber_bankOf hp, t.bankNumber_bankOf hq] at e
  unfold Store.physicalPage at e
  cases map : t.interleaved <;> simp only [map, Bool.false_eq_true, if_false, if_true] at e <;> omega

/-- No two logical words share a physical word (R117). -/
theorem Store.physicalWord_injective (t : Store) {a b : Nat} (ha : 0x4000 ≤ a ∧ a ≤ 0x7FFF)
    (hb : 0x4000 ≤ b ∧ b ≤ 0x7FFF) (e : t.physicalWord a = t.physicalWord b) : a = b := by
  unfold Store.physicalWord at e
  have page : logicalPage a = logicalPage b := by
    refine t.page_injective ?_ ?_ ?_ <;> unfold logicalPage at * <;> omega
  unfold logicalPage at page
  omega

/-- The words of a list with their places when they are written in a row from `a` on, with the enables `en`. -/
def Store.placed (t : Store) (a : Nat) (en : Nat → BitVec 4) (k : Nat) (ws : List Word) : List (Nat × BitVec 4 × Word) :=
  (ws.zipIdx k).map fun p => (t.physicalWord (a + p.2), en p.2, p.1)

theorem Store.mem_placed {t : Store} {a k : Nat} {en : Nat → BitVec 4} {ws : List Word} {i : Nat} (h : i < ws.length) :
    (t.physicalWord (a + (k + i)), en (k + i), ws[i]) ∈ t.placed a en k ws := by
  refine List.mem_map.2 ⟨(ws[i], k + i), ?_, rfl⟩
  rw [List.mk_mem_zipIdx_iff_le_and_getElem?_sub]
  simp [h]

theorem Store.of_mem_placed {t : Store} {a k : Nat} {en : Nat → BitVec 4} {ws : List Word} {p : Nat × BitVec 4 × Word}
    (h : p ∈ t.placed a en k ws) : ∃ i < ws.length, p.1 = t.physicalWord (a + (k + i)) := by
  obtain ⟨⟨w, i⟩, member, rfl⟩ := List.mem_map.1 h
  obtain ⟨lo, hi, -⟩ := List.mem_zipIdx member
  exact ⟨i - k, by omega, by rw [show k + (i - k) = i by omega]⟩

/-- Words of the store that follow each other have places that differ. -/
theorem Store.placed_nodup (t : Store) {a k : Nat} (en : Nat → BitVec 4) {ws : List Word} (lo : 0x4000 ≤ a)
    (hi : a + k + ws.length ≤ 0x8000) : ((t.placed a en k ws).map (·.1)).Nodup := by
  have places : (t.placed a en k ws).map (·.1) = (List.range' k ws.length).map fun i => t.physicalWord (a + i) := by
    rw [Store.placed, List.map_map, ← List.zipIdx_map_snd k ws, List.map_map]
    rfl
  rw [places, List.nodup_map_iff_inj_on (List.nodup_range' ..)]
  intro i hi' j hj e
  rw [List.mem_range'_1] at hi' hj
  have := t.physicalWord_injective (a := a + i) (b := a + j) (by omega) (by omega) e
  omega

/-- The memory after a store write (R9, R121). -/
theorem Store.writeStoreFrom_placed (t : Store) (h : Header) (k n : Nat) (ws : List Word) :
    (t.writeStoreFrom h k n ws).mem = t.mem.writeAll (t.placed h.address.toNat (h.enables · n) k ws) := by
  induction ws generalizing t k with
  | nil => rfl
  | cons w ws ih => exact ih _ _

/-- The memory after words have been written in a row (R127). -/
theorem Store.writeWords_placed (t : Store) (a : Nat) (ws : List Word) (k : Nat) :
    (t.writeWords (a + k) ws).mem = t.mem.writeAll (t.placed a (fun _ => 0xF) k ws) := by
  induction ws generalizing t k with
  | nil => rfl
  | cons w ws ih =>
    rw [Store.writeWords, Nat.add_assoc, ih (t.writeWord (a + k) 0xF w) (k + 1)]
    change (t.mem.writeWord (t.physicalWord (a + k)) 0xF w).writeAll (t.placed a (fun _ => 0xF) (k + 1) ws) = _
    rfl

end Sys2Proof.Machine
end

section
/-! SUPPORT. Writes of the store and of locked words, and SET_ID (O37 to O39). -/

namespace Sys2Proof.Machine

set_option Elab.async false

open Sys2Proof (Instr Word Bank)

/-! ## WRITE of the store -/

section
variable {u : State} {r : Request}

/-- A WRITE in one page of the store comes to step 14 (R16, R121). -/
theorem State.laterSteps_storeWrite (write : r.hdr.command = .write) (mode : u.ctl.mode = .setup ∨ u.ctl.mode = .run)
    (one : 1 ≤ r.hdr.count.toNat) (many : r.hdr.count.toNat ≤ 64) (lo : 0x4000 ≤ r.hdr.address.toNat)
    (hi : r.hdr.address.toNat ≤ 0x7FFF) (inPage : r.hdr.address.toNat % 128 + r.hdr.count.toNat ≤ 128) :
    u.laterSteps r =
      if u.stl.pageInLog (logicalPage r.hdr.address.toNat) = true then some (.refuse .locked)
      else if u.stl.pageOpen (logicalPage r.hdr.address.toNat) = true then none else some (.defer 2) := by
  have stored : regionOf r.hdr.address.toNat = some .store := (regionOf_eq_store_iff _).2 ⟨lo, hi⟩
  have toStore : r.hdr.toStore = true := decide_eq_true stored
  have region := regionOf_page lo hi inPage
  rw [State.laterSteps_words (.inr write) (State.stepLegal_of_not_order mode (by simp [write]) (by simp [write])) one many
    (by simp [stored]) (fun k hk => (region k hk).trans stored.symm) (fun _ => inPage)
    (fun _ k hk => readOnlyWord_of_store (region k hk)), Header.stepEnables_of_store toStore,
    Request.stepValue_of_write write, State.stepLocked_of_write write, stored,
    State.stepBusy_of_needed (State.neededPage_of_store (.inr write) toStore)]
  cases u.stl.pageInLog (logicalPage r.hdr.address.toNat) <;> simp [toStore]

theorem Store.pageInLog_iff (t : Store) (p : Nat) :
    t.pageInLog p = true ↔ t.logFirst ≤ p ∧ p < t.logFirst + t.logPages := by
  simp [Store.pageInLog]

theorem Store.writeStoreFrom_eq_writeAll (t : Store) (h : Header) (k n : Nat) (ws : List Word) :
    t.writeStoreFrom h k n ws =
      { t with mem := t.mem.writeAll (t.placed h.address.toNat (h.enables · n) k ws) } := by
  obtain ⟨m, e⟩ := t.writeStoreFrom_eq h k n ws
  rw [← t.writeStoreFrom_placed, e]

theorem getLsbD_enable (c : Prop) [Decidable c] (x : BitVec 4) {j : Nat} (hj : j < 4) :
    (if c then x else 0xF).getLsbD j = true ↔ (c → x.getLsbD j = true) := by
  have whole : ∀ j < 4, (0xF : BitVec 4).getLsbD j = true := by decide
  by_cases h : c <;> simp only [h, if_true, if_false, whole j hj, forall_const, false_imp_iff]

/-- The byte enables of word `k` of a store write (R9). -/
theorem Header.getLsbD_enables (h : Header) (k n : Nat) {j : Nat} (hj : j < 4) :
    (h.enables k n).getLsbD j = true ↔
      (k = 0 → h.firstEn.getLsbD j = true) ∧ (k + 1 = n → h.lastEn.getLsbD j = true) := by
  rw [Header.enables, BitVec.getLsbD_and, Bool.and_eq_true, getLsbD_enable _ _ hj, getLsbD_enable _ _ hj]

end

/-- Settles O37: the words are written with their enables at places that differ. -/
theorem storeWriteChangesEnabledBytes : Obligations.StoreWriteChangesEnabledBytes := by
  intro s r fresh write one many lo hi inPage u a n p canonical mode outside isOpen
  have length : r.words.length = n := by
    rw [fresh.1.2.2, Header.blockWords, write]
    rfl
  have passes : u.laterSteps r = none := by
    rw [State.laterSteps_storeWrite write mode one many lo hi inPage, if_neg (by rwa [Store.pageInLog_iff]),
      if_pos (show u.stl.pageOpen (logicalPage r.hdr.address.toNat) = true from (Store.pageOpen_iff _ _).2 isOpen)]
  have toStore : r.hdr.toStore = true := r.hdr.toStore_iff.2 ⟨lo, hi⟩
  have apart := u.stl.placed_nodup (k := 0) (r.hdr.enables · r.words.length) (ws := r.words) lo
    (by rw [length]; omega)
  refine ⟨u.stl.mem.writeAll (u.stl.placed a (r.hdr.enables · r.words.length) 0 r.words), ?_,
    Memory.writeAll_wf _ canonical, fun k hk j hj => ?_, fun b hb => ?_⟩
  · rw [exec_of_executed (c := .storeWrite r.block) rfl fresh ⟨write, lo, hi⟩ passes,
      State.recordValidation_of_not_order (by simp [write])]
    change Host.Outcome.next (u.executed (applyWrite r u) r) = _
    rw [applyWrite, if_pos toStore, Store.writeStoreFrom_eq_writeAll]
  · have member := u.stl.mem_placed (a := a) (k := 0) (en := (r.hdr.enables · r.words.length)) hk
    rw [Nat.zero_add] at member
    rw [Memory.read_writeAll_same (p := (_, _, r.words[k])) canonical apart member hj]
    simp only [Header.getLsbD_enables _ _ _ hj, length]
  · refine Memory.read_writeAll_other canonical fun q hq => ?_
    obtain ⟨i, hi, e⟩ := Store.of_mem_placed hq
    rw [e, Nat.zero_add]
    exact hb i (length ▸ hi)

/-! ## Locked and closed words -/

/-- A DIRECT WRITE with a fresh data block and whole enables in SETUP or RUN. -/
structure State.TakesWrite (u : State) (r : Request) : Prop where
  mode : u.ctl.mode = .setup ∨ u.ctl.mode = .run
  direct : r.hdr.addressing = .direct
  write : r.hdr.command = .write
  block : dataCheck r.words = r.check ∧ u.link.mem.recognises r = false
  count : 1 ≤ r.hdr.count.toNat ∧ r.hdr.count.toNat ≤ 64
  length : r.words.length = r.hdr.count.toNat
  enables : r.hdr.firstEn = 0xF ∧ r.hdr.lastEn = 0xF

section
variable {u : State} {r : Request} {region : Region}

/-- A WRITE that lies whole in one writable region outside the store meets step 13, then step 14. -/
theorem State.TakesWrite.verdict (t : u.TakesWrite r) {v : Verdict}
    (all : ∀ k < r.hdr.count.toNat, regionOf (r.hdr.address.toNat + k) = some region) (plain : region ≠ .store)
    (writable : ∀ k < r.hdr.count.toNat, readOnlyWord (r.hdr.address.toNat + k) = false)
    (stop : r.stepValue.or (u.stepLocked r.hdr) = some v) : u.verdict r = v := by
  have here : regionOf r.hdr.address.toNat = some region := all 0 t.count.1
  have notStored : ¬r.hdr.namesStore := fun st =>
    plain (Option.some.inj (here.symm.trans ((regionOf_eq_store_iff _).2 st)))
  refine State.verdict_of_stop t.direct (by simp [t.write, Command.unused]) (fun _ => t.block) ?_
  rw [State.laterSteps_words (.inr t.write)
    (State.stepLegal_of_not_order t.mode (by simp [t.write]) (by simp [t.write])) t.count.1 t.count.2
    (by simp [here]) (fun k hk => (all k hk).trans here.symm) (fun st => absurd st notStored) (fun _ => writable),
    Header.stepEnables_of_whole t.enables.1 t.enables.2, Option.none_or, ← Option.or_assoc, stop]
  rfl

theorem Request.stepValue_of_good (write : r.hdr.command = .write)
    (good : ∀ k, (h : k < r.words.length) → ¬badValue (r.hdr.address.toNat + k) r.words[k] = true) :
    r.stepValue = none := by
  rw [Request.stepValue_of_write write, if_neg]
  simp only [Bool.and_eq_true, Request.writes_any_iff, not_and, not_exists]
  exact fun _ k hk => good k hk

theorem Request.stepValue_of_bad (write : r.hdr.command = .write) (plain : r.hdr.toStore = false) {k : Nat}
    (hk : k < r.words.length) (bad : badValue (r.hdr.address.toNat + k) r.words[k] = true) :
    r.stepValue = some (.refuse .badValue) := by
  rw [Request.stepValue_of_write write, if_pos]
  simp only [plain, Bool.not_false, Bool.true_and, Request.writes_any_iff]
  exact ⟨k, hk, bad⟩

/-- What step 14 locks outside the store (R69, R85, R86, R118). -/
theorem State.TakesWrite.stepLocked (t : u.TakesWrite r) (here : regionOf r.hdr.address.toNat = some region)
    (locks : region = .activeWindow ∧ u.ctl.mode = .run ∨ region = .stagedWindow ∧ u.sct.commit.isSome = true ∨
      region = .channelTable ∧ u.ctl.mode = .run ∨
      region = .registers ∧ u.ctl.mode = .run ∧ r.hdr.covers 0x018 0x018 = true) :
    u.stepLocked r.hdr = some (.refuse .locked) := by
  rw [State.stepLocked_of_write t.write, here]
  rcases locks with ⟨rfl, run⟩ | ⟨rfl, pending⟩ | ⟨rfl, run⟩ | ⟨rfl, run, covers⟩
  · simp [run]
  · simp [pending]
  · simp [run]
  · simp [run, covers]

/-- A locked WRITE with good values in a writable region is refused with LOCKED. -/
theorem State.TakesWrite.verdict_locked (t : u.TakesWrite r)
    (all : ∀ k < r.hdr.count.toNat, regionOf (r.hdr.address.toNat + k) = some region) (plain : region ≠ .store)
    (writable : ∀ k < r.hdr.count.toNat, readOnlyWord (r.hdr.address.toNat + k) = false)
    (good : ∀ k, (h : k < r.words.length) → ¬badValue (r.hdr.address.toNat + k) r.words[k] = true)
    (locked : u.stepLocked r.hdr = some (.refuse .locked)) : u.verdict r = .refuse .locked :=
  t.verdict all plain writable (by rw [Request.stepValue_of_good t.write good, Option.none_or, locked])

/-- A WRITE of STORE_CFG in RUN, alone or with LOG_WATERMARK: BAD_VALUE, or LOCKED when all values are good. -/
theorem State.TakesWrite.verdict_storeCfg (t : u.TakesWrite r) (run : u.ctl.mode = .run)
    (cfg : r.hdr.address.toNat = 0x018) (short : r.hdr.count.toNat ≤ 2) :
    ((∀ k, (h : k < r.words.length) → ¬badValue (0x018 + k) r.words[k] = true) → u.verdict r = .refuse .locked) ∧
      ∀ k, (h : k < r.words.length) → badValue (0x018 + k) r.words[k] = true → u.verdict r = .refuse .badValue := by
  have all : ∀ k < r.hdr.count.toNat, regionOf (r.hdr.address.toNat + k) = some .registers := fun k hk => by
    rw [regionOf_eq_registers_iff, placedRegister_iff]
    omega
  have writable : ∀ k < r.hdr.count.toNat, readOnlyWord (r.hdr.address.toNat + k) = false := fun k hk => by
    rw [Bool.eq_false_iff, ne_eq, readOnlyWord_iff]
    omega
  refine ⟨fun good => ?_, fun k hk bad => ?_⟩
  · refine t.verdict_locked all (by simp) writable (by rwa [cfg]) ?_
    refine t.stepLocked (all 0 t.count.1) (.inr (.inr (.inr ⟨rfl, run, ?_⟩)))
    rw [Header.covers_iff, Header.touches]
    omega
  · refine t.verdict all (by simp) writable ?_
    rw [Request.stepValue_of_bad t.write _ hk (by rwa [cfg])]
    · rfl
    · rw [Header.toStore, cfg]
      rfl

end

/-- Settles O38: in the store by step 14 or step 16; elsewhere by step 14, or by step 13 before it. -/
theorem lockedOrClosedWritesStoreNothing : Obligations.LockedOrClosedWritesStoreNothing := by
  refine ⟨fun s r fresh write one many lo hi inPage => ?store,
    fun u r mode direct write check new one many length first last => ?locked⟩
  case store =>
    intro p u bank mode
    have later : u.laterSteps r =
        if u.stl.pageInLog p = true then some (.refuse .locked)
        else if u.stl.pageOpen p = true then none else some (.defer 2) :=
      State.laterSteps_storeWrite (u := u) write mode one many lo hi inPage
    refine ⟨fun inLog => ?_, fun outside shut => ?_⟩
    · rw [if_pos ((Store.pageInLog_iff _ _).2 inLog)] at later
      rw [exec_of_stopped (c := .storeWrite r.block) rfl fresh ⟨write, lo, hi⟩ later,
        State.settle_refuse _ _ _ (by simp) (by simp)]
    · rw [if_neg (by rwa [Store.pageInLog_iff]), if_neg (by rwa [Store.pageOpen_iff])] at later
      obtain ⟨hears, direct, block, clean⟩ := fresh
      have verdict : u.verdict r = .defer 2 :=
        State.verdict_of_stop direct (Command.unused_of_hasBlock block) (fun _ => clean) later
      rw [exec_of_verdict (c := .storeWrite r.block) rfl hears ⟨write, lo, hi⟩ (by simp [direct]) verdict]
      have needed : u.neededPage r.hdr = some p :=
        State.neededPage_of_store (.inr write) (r.hdr.toStore_iff.2 ⟨lo, hi⟩)
      exact congrArg (fun x => Host.Outcome.next (u.answering x r (.defer 2))) (State.openNeeded_of_needed needed)
  case locked =>
    intro a n
    have t : u.TakesWrite r := ⟨mode, direct, write, ⟨check, new⟩, ⟨one, many⟩, length, first, last⟩
    have readable (high : 0x100 ≤ a) (low : a + n ≤ 0x120 ∨ 0x200 ≤ a) : ∀ k < n, readOnlyWord (a + k) = false := by
      intro k hk
      rw [Bool.eq_false_iff, ne_eq, readOnlyWord_iff]
      omega
    have tableWord (high : 0x200 ≤ a) (k : Nat) (hk : k < r.words.length) : ¬badValue (a + k) r.words[k] = true := by
      rw [badValue_iff]
      omega
    refine ⟨fun run lo hi => ?active, fun pending lo hi => ?staged, fun run lo hi values => ?channels, ?registers⟩
    case active =>
      have all : ∀ k < n, regionOf (a + k) = some .activeWindow := fun k hk =>
        (regionOf_eq_activeWindow_iff _).2 (by omega)
      exact t.verdict_locked all (by simp) (readable (by omega) (.inr lo)) (tableWord lo)
        (t.stepLocked (all 0 one) (.inl ⟨rfl, run⟩))
    case staged =>
      have all : ∀ k < n, regionOf (a + k) = some .stagedWindow := fun k hk =>
        (regionOf_eq_stagedWindow_iff _).2 (by omega)
      exact t.verdict_locked all (by simp) (readable (by omega) (by omega)) (tableWord (by omega))
        (t.stepLocked (all 0 one) (.inr (.inl ⟨rfl, pending⟩)))
    case channels =>
      have all : ∀ k < n, regionOf (a + k) = some .channelTable := fun k hk =>
        (regionOf_eq_channelTable_iff _).2 (by omega)
      refine t.verdict_locked all (by simp) (readable lo (.inl hi)) (fun k hk => ?_)
        (t.stepLocked (all 0 one) (.inr (.inr (.inl ⟨rfl, run⟩))))
      have := values _ (List.getElem_mem hk)
      rw [badValue_iff]
      omega
    case registers =>
      intro pagesOk
      have cfg (w : Word) : badValue 0x018 w = true ↔ ¬pagesOk w := by
        rw [badValue_iff]
        simp only [pagesOk, true_and]
        omega
      have mark (w : Word) : badValue 0x019 w = true ↔ 8192 < (w.extractLsb' 0 14).toNat := by
        rw [badValue_iff]
        omega
      refine ⟨fun run at18 w words => ?one, fun run at18 w0 w1 words => ?two⟩
      case one =>
        have count : r.hdr.count.toNat = 1 := by rw [← length, words]; rfl
        obtain ⟨locked, bad⟩ := t.verdict_storeCfg run at18 (by omega)
        simp only [words, List.length_singleton, Nat.lt_one_iff] at locked bad
        refine ⟨fun ok => locked fun k hk => ?_, fun out => bad 0 rfl ((cfg w).2 out)⟩
        subst hk
        exact fun e => (cfg w).1 e ok
      case two =>
        have count : r.hdr.count.toNat = 2 := by rw [← length, words]; rfl
        obtain ⟨locked, bad⟩ := t.verdict_storeCfg run at18 (by omega)
        simp only [words, List.length_cons, List.length_nil] at locked bad
        refine ⟨fun ok level => locked fun k hk => ?_, fun out => ?_⟩
        · match k, hk with
          | 0, _ => exact fun e => (cfg w0).1 e ok
          | 1, _ => exact fun e => absurd ((mark w1).1 e) (by omega)
        · rcases out with out | out
          · exact bad 0 (by omega) ((cfg w0).2 out)
          · exact bad 1 (by omega) ((mark w1).2 out)

end Sys2Proof.Machine
end

section
/-! SUPPORT. SET_ID, DRAIN and broadcasts (O39, O41, O45, O50). -/

namespace Sys2Proof.Machine

set_option Elab.async false

open Sys2Proof (Instr Word Bank)

/-! ## SET_ID -/

section
variable {u : State} {r : Request}

/-- A SET_ID with COUNT 1 in SETUP comes to step 13 (R33). -/
theorem State.laterSteps_setId (command : r.hdr.command = .setId) (setup : u.ctl.mode = .setup)
    (count : r.hdr.count.toNat = 1) :
    u.laterSteps r = if 1 ≤ r.param.toNat ∧ r.param.toNat ≤ 63 then none else some (.refuse .badId) := by
  have notOrder : r.hdr.command ≠ .order := by simp [command]
  have locked : u.stepLocked r.hdr = none := by
    unfold State.stepLocked
    simp [Header.order, command]
  have value : r.stepValue = if 1 ≤ r.param.toNat ∧ r.param.toNat ≤ 63 then none else some (.refuse .badId) := by
    simp [Request.stepValue, Header.order, command]
  simp [State.laterSteps, State.stepLegal_of_not_order (.inl setup) notOrder (fun _ => setup),
    Header.stepOrder_of_not_order notOrder,
    State.stepCount_of_fits (u := u) (h := r.hdr) (by omega) (by simp [count, command, State.maxCount]),
    Header.stepAddress_of_no_words (h := r.hdr) (by simp [command, Command.accessesWords]),
    Header.stepEnables_of_not_write (h := r.hdr) (by simp [command]), value, locked,
    State.stepPrecondition_of_not_order (u := u) notOrder, State.stepBusy, State.neededPage, command,
    Command.accessesWords]

end

theorem setWidth_eq_extractLsb' (w : Word) : w.setWidth 6 = w.extractLsb' 0 6 := by
  ext i hi
  simp

/-- Settles O39: step 13 decides; the reply memory is loaded for DIRECT addressing only. -/
theorem setIdNamesTheNode : Obligations.SetIdNamesTheNode := by
  intro s r w hears command words check u setup addressing named
  have count : r.hdr.count.toNat = 1 := by
    have := hears.2.2
    rw [words, Header.blockWords, command] at this
    exact this.symm
  have param : r.param = w := by rw [Request.param, words]; rfl
  have later := State.laterSteps_setId (u := u) command setup count
  rw [param] at later
  have verdict : u.verdict r = (u.laterSteps r).getD .accept := by
    refine State.verdict_of_later (fun _ => check) (fun direct _ => ?_) (by simp [command, Command.unused])
      (fun _ => by simp [Header.chainAllowed, command])
    rcases addressing with chain | ⟨-, fresh⟩
    · simp [chain] at direct
    · exact fresh
  have addressed : r.hdr.addressing ≠ .broadcast := by rcases addressing with e | ⟨e, -⟩ <;> simp [e]
  have accepted (good : 1 ≤ w.toNat ∧ w.toNat ≤ 63) :
      exec (.setId r.block) s = .next (u.answering (named.remember r) r .accept) := by
    rw [exec_of_verdict (c := .setId r.block) (v := .accept) rfl hears command addressed
      (by rw [verdict, later, if_pos good]; rfl)]
    refine congrArg (fun x : State => Host.Outcome.next (u.answering (x.remember r) r .accept)) ?_
    change applySetId r (u.recordValidation r.hdr) = named
    rw [State.recordValidation_of_not_order (by simp [command]), applySetId, param, setWidth_eq_extractLsb']
  refine ⟨fun good direct => ?_, fun good chain => ?_, fun bad => ?_⟩
  · rw [accepted good, State.remember_of_remembered (by simp [Header.remembered, direct, command, Command.hasBlock])]
    rfl
  · rw [accepted good, State.remember_of_not_remembered (by simp [Header.remembered, chain])]
  · refine exec_of_refuse (c := .setId r.block) rfl hears command addressed ?_ (by simp) (by simp)
    rw [verdict, later, if_neg (by omega)]
    rfl

/-! ## DRAIN -/

section
variable {u : State} {h : Header}

theorem State.isResend_iff : u.isResend h = true ↔
    u.link.drain.valid = true ∧ u.link.drain.seq = h.seq ∧ u.stl.inFlight ≠ 0 := by
  simp [State.isResend, and_assoc]

theorem State.neededPage_drain (command : h.command = .drain) :
    u.neededPage h =
      if u.isResend h = true then some (u.stl.placePage u.stl.head)
      else if u.stl.logPages = 0 ∨ u.stl.count - u.stl.inFlight = 0 then none
      else some (u.stl.placePage (u.stl.placeAfter u.stl.head u.stl.inFlight)) := by
  cases e : u.isResend h <;>
    simp [State.neededPage, State.drainHead, command, Command.accessesWords, e, Store.logOn]

/-- A DRAIN with COUNT in range in SETUP or RUN comes to step 16 (R133, R134). -/
theorem State.laterSteps_drain (command : h.command = .drain) (mode : u.ctl.mode = .setup ∨ u.ctl.mode = .run)
    (lo : 1 ≤ h.count.toNat) (hi : h.count.toNat ≤ if u.stl.stamp = true then 15 else 31) :
    u.laterSteps ⟨h, [], 0⟩ = u.stepBusy h := by
  have notOrder : h.command ≠ .order := by simp [command]
  have locked : u.stepLocked h = none := by
    unfold State.stepLocked
    simp [Header.order, command]
  have value (check : BitVec 16) : Request.stepValue ⟨h, [], check⟩ = none := by simp [Request.stepValue, Header.order, command]
  simp [State.laterSteps, State.stepLegal_of_not_order mode notOrder (by simp [command]),
    Header.stepOrder_of_not_order notOrder,
    State.stepCount_of_fits (u := u) (h := h) lo (by simpa [command, State.maxCount] using hi),
    Header.stepAddress_of_no_words (h := h) (by simp [command, Command.accessesWords]),
    Header.stepEnables_of_not_write (h := h) (by simp [command]), value, locked,
    State.stepPrecondition_of_not_order (u := u) notOrder]

end

theorem Store.retireAndTake_eq (t : Store) (most : Nat) :
    t.retireAndTake most =
      { t with
        head := t.placeAfter t.head t.inFlight
        count := t.count - t.inFlight
        inFlight :=
          if t.logPages = 0 then 0
          else min most (min (t.count - t.inFlight)
            (t.placesPerPage - t.placeAfter t.head t.inFlight % t.placesPerPage)) } := by
  by_cases off : t.logPages = 0 <;> simp [Store.retireAndTake, Store.logOn, off]

/-- The words of records of one size lie one record after another. -/
theorem getElem?_flatMap_range {α : Type} (f : Nat → Nat → α) (c : Nat) {n i j : Nat} (hi : i < n) (hj : j < c) :
    ((List.range n).flatMap fun i => (List.range c).map (f i))[i * c + j]? = some (f i j) := by
  have length (n : Nat) : ((List.range n).flatMap fun i => (List.range c).map (f i)).length = n * c := by
    simp [List.length_flatMap]
  induction n with
  | zero => omega
  | succ n ih =>
    rw [List.range_succ, List.flatMap_append, List.flatMap_singleton]
    by_cases last : i = n
    · subst last
      rw [List.getElem?_append_right (by rw [length]; omega), length]
      simp [hj]
    · have hi : i < n := by omega
      rw [List.getElem?_append_left, ih hi]
      rw [length]
      calc i * c + j < i * c + c := by omega
        _ = (i + 1) * c := by rw [Nat.succ_mul]
        _ ≤ n * c := Nat.mul_le_mul_right _ hi

/-- The words of the drain block, and the fields of its first (R136). -/
theorem Store.drainBlock_fields (t : Store) (resent : Bool) (flight : t.inFlight ≤ 31)
    (present : t.count - t.inFlight ≤ 8191) :
    ∃ w ws, t.drainBlock resent = w :: ws ∧ (w.extractLsb' 0 5).toNat = t.inFlight ∧ w.extractLsb' 5 3 = 0 ∧
      (w.extractLsb' 8 13).toNat = t.count - t.inFlight ∧ w.extractLsb' 21 3 = 0 ∧
      w.getLsbD 24 = t.full ∧ w.getLsbD 25 = t.overwrite ∧ w.getLsbD 26 = t.stamp ∧ w.getLsbD 27 = resent ∧
      w.extractLsb' 28 4 = 0 ∧ ws.length = t.inFlight * t.recordSize ∧
      ∀ i < t.inFlight, ∀ j < t.recordSize,
        ws[i * t.recordSize + j]? = some (t.readWord (t.placeAddress (t.placeAfter t.head i) + j)) := by
  have length : (t.recordWords t.head t.inFlight).length = t.inFlight * t.recordSize := by
    simp [Store.recordWords, List.length_flatMap]
  have toNat_ofNat {k v : Nat} (h : v < 2 ^ k) : (BitVec.ofNat k v).toNat = v := by
    rw [BitVec.toNat_ofNat, Nat.mod_eq_of_lt h]
  refine ⟨_, _, rfl, ?_, ?_, ?_, ?_, ?_, ?_, ?_, ?_, ?_, length, fun i hi j hj =>
    getElem?_flatMap_range (fun i j => t.readWord (t.placeAddress (t.placeAfter t.head i) + j)) _ hi hj⟩
  all_goals simp only [BitVec.extractLsb'_or, BitVec.getLsbD_or]
  case refine_1 => simpa [-BitVec.extractLsb'_toNat, -BitVec.toNat_ofNat] using toNat_ofNat (k := 5) (by omega)
  case refine_3 => simpa [-BitVec.extractLsb'_toNat, -BitVec.toNat_ofNat] using toNat_ofNat (k := 13) (by omega)
  all_goals simp [-BitVec.getLsbD_eq_getElem]

/-- Settles O41: only step 16 can stop such a DRAIN. -/
theorem drainRetiresAndTakes : Obligations.DrainRetiresAndTakes := by
  refine ⟨fun s h hears drain direct => ?_, Store.drainBlock_fields⟩
  intro u t mode lo hi resend head present n taken
  have noBlock : h.command.hasBlock = false := by simp [drain, Command.hasBlock]
  have later := State.laterSteps_drain drain mode lo hi
  have verdict : u.verdict ⟨h, [], 0⟩ = (u.stepBusy h).getD .accept := by
    rw [← later]
    exact State.verdict_of_direct (r := ⟨h, [], 0⟩) direct (by simp [drain, Command.unused]) (by simp [noBlock])
  have needed := State.neededPage_drain (u := u) drain
  have row {v : Verdict} (e : u.verdict ⟨h, [], 0⟩ = v) :=
    exec_of_verdict (c := .drain) (r := ⟨h, [], 0⟩) rfl hears drain (by simp [direct]) e
  have accepted (free : u.stepBusy h = none) :
      exec .drain s = .next (u.answering (applyDrain ⟨h, [], 0⟩ u) ⟨h, [], 0⟩ .accept) := by
    rw [row (v := .accept) (by rw [verdict, free]; rfl)]
    refine congrArg (fun x => Host.Outcome.next (u.answering x ⟨h, [], 0⟩ .accept)) ?_
    change (applyDrain ⟨h, [], 0⟩ (u.recordValidation h)).remember ⟨h, [], 0⟩ = applyDrain ⟨h, [], 0⟩ u
    rw [State.recordValidation_of_not_order (by simp [drain]), State.remember_of_not_remembered]
    simp [Header.remembered, noBlock]
  have data (after : State) :
      (u.replyFor after h .accept).data = some (checkedOctets (after.stl.drainBlock (u.isResend h))) := by
    simp [State.replyFor, State.replyData, drain]
  have again (h' : resend) : u.isResend h = true := State.isResend_iff.2 h'
  have first (h' : ¬resend) : u.isResend h = false := Bool.eq_false_iff.2 fun e => h' (State.isResend_iff.1 e)
  refine ⟨fun re isOpen => ⟨?_, ?_⟩, fun new free => ⟨?_, ?_⟩, fun p page shut => ?_⟩
  · rw [if_pos (again re)] at needed
    rw [accepted (by rw [State.stepBusy_of_needed needed, if_pos isOpen]), applyDrain, if_pos (again re)]
  · rw [data, again re]
  · rw [if_neg (by simp [first new])] at needed
    have passes : u.stepBusy h = none := by
      by_cases empty : u.stl.logPages = 0 ∨ u.stl.count - u.stl.inFlight = 0
      · rw [State.stepBusy, needed, if_pos empty]
      · rw [if_neg empty] at needed
        rw [State.stepBusy_of_needed needed, if_pos]
        rcases free with off | none | isOpen
        · exact absurd (.inl off) empty
        · exact absurd (.inr none) empty
        · exact isOpen
    rw [accepted passes, applyDrain, if_neg (by simp [first new]), Store.retireAndTake_eq]
  · rw [data, first new]
  · have needs : u.neededPage h = some p := by
      rw [needed]
      rcases page with ⟨re, rfl⟩ | ⟨new, on, some, rfl⟩
      · rw [if_pos (again re)]
      · rw [if_neg (by simp [first new]), if_neg (by rintro (off | none); exacts [on off, some none])]
    rw [row (v := .defer 2) (by
      rw [verdict, State.stepBusy_of_needed needs, if_neg (Bool.eq_false_iff.1 shut)]; rfl)]
    exact congrArg (fun x => Host.Outcome.next (u.answering x ⟨h, [], 0⟩ (.defer 2)))
      (State.openNeeded_of_needed needs)

end Sys2Proof.Machine
end

section
/-! SUPPORT. ENTER_QUIET and SOFT_RESET, and broadcasts (O45, O50). -/

namespace Sys2Proof.Machine

set_option Elab.async false

open Sys2Proof (Instr Word Bank)

/-! ## Resets and QUIET -/

@[simp] theorem Ident.reset_chi (i : Ident) (k : ResetCause) : (i.reset k).chi = i.chi := by cases k <;> rfl

theorem Ident.reset_nodeId (i : Ident) (k : ResetCause) : (i.reset k).nodeId = if k = .soft then i.nodeId else 0 := by
  cases k <;> rfl

theorem ResetCause.isSoft_iff (k : ResetCause) : k.isSoft = true ↔ k = .soft := decide_eq_true_iff

/-- A reset gives every block the values of Table 10-1 (R163, R164). -/
theorem State.beginReset_resetTo (s : State) (k : ResetCause) : State.ResetTo k s (s.beginReset k) where
  mode := ⟨rfl, rfl, rfl⟩
  ident := ⟨s.ident.reset_nodeId k, s.ident.reset_chi k⟩
  link := ⟨rfl, by simp [State.beginReset, Link.reset, k.isSoft_iff], rfl, rfl, rfl, rfl, rfl, rfl⟩
  feeds := ⟨rfl, rfl, fun f _ => by
    rw [show (s.beginReset k).cap = Capture.reset from rfl, Capture.feed_reset]
    exact ⟨rfl, rfl, rfl⟩⟩
  channels := fun c _ => by
    rw [show (s.beginReset k).cap = Capture.reset from rfl, Capture.channel_reset]
    exact ⟨rfl, rfl, rfl, rfl⟩
  tables := ⟨rfl, show TableCheck.blank.word = 0 by decide, rfl, rfl⟩
  lane := ⟨⟨rfl, rfl, rfl, rfl, rfl, rfl, rfl, rfl, rfl⟩, rfl, rfl, show Lane.reset.faultWord = 0 by decide, rfl, rfl⟩
  store := ⟨rfl, rfl, rfl, rfl, rfl, rfl, rfl, rfl, rfl, rfl, rfl, rfl, rfl, rfl⟩
  events := ⟨rfl, rfl, rfl, rfl, by simp [State.beginReset, Events.reset, k.isSoft_iff],
    by simp [State.beginReset, Events.reset, k.isSoft_iff]⟩
  test := ⟨rfl, rfl⟩
  user := by simp [State.beginReset, k.isSoft_iff]
  pending := rfl

/-- The channels of a node that enters QUIET (R77). -/
theorem State.goQuiet_channel (s : State) {c : Nat} (h : c < 32) :
    s.goQuiet.cap.channel c =
      { s.cap.channel c with sample := { (s.cap.channel c).sample with noData := true, fresh := false } } := by
  simp [State.goQuiet, Capture.channel, h, Channel.markNoData, Sample.markNoData]

/-! ## Broadcasts -/

section
variable {u : State} {r : Request} {apply : State → State}

/-- What a broadcast meets before step 8: it is intact, arrives outside SELFTEST, and is permitted (R22). -/
structure State.Considers (u : State) (r : Request) : Prop where
  intact : r.checkFails = false
  awake : u.ctl.mode ≠ .selftest
  known : r.hdr.command.unused = false
  permitted : r.hdr.broadcastPermitted = true

theorem State.Considers.settle_accept (c : u.Considers r) (passes : u.laterSteps r = none) :
    u.settleBroadcast apply r = apply (u.recordValidation r.hdr) := by
  simp [State.settleBroadcast, c.intact, c.awake, c.known, c.permitted, passes]

theorem State.Considers.settle_badTable (c : u.Considers r) (stop : u.laterSteps r = some (.refuse .badTable)) :
    u.settleBroadcast apply r = (u.recordValidation r.hdr).ignoreBroadcast 2 Reason.badTable.code := by
  simp [State.settleBroadcast, c.intact, c.awake, c.known, c.permitted, stop]

theorem State.Considers.settle_refuse (c : u.Considers r) {why : Reason} (stop : u.laterSteps r = some (.refuse why))
    (table : why ≠ .badTable) : u.settleBroadcast apply r = u.ignoreBroadcast 2 why.code := by
  cases why <;> first | exact absurd rfl table | simp [State.settleBroadcast, c.intact, c.awake, c.known, c.permitted, stop]

theorem State.Considers.settle_defer (c : u.Considers r) {n : Nat} (stop : u.laterSteps r = some (.defer n)) :
    u.settleBroadcast apply r = u.ignoreBroadcast 3 n := by
  simp [State.settleBroadcast, c.intact, c.awake, c.known, c.permitted, stop]

/-- A broadcast order that SETUP or RUN permits and no later step stops is executed without a reply (R22). -/
theorem State.judge_broadcast_order {o : Order} (broadcast : r.hdr.addressing = .broadcast) (orders : r.orders o)
    (check : dataCheck r.words = r.check) (permitted : o ≠ .runSelftest) (commit : o ≠ .commit) (start : o ≠ .startRun)
    (stop : o ≠ .stopRun) (awake : u.ctl.mode ≠ .selftest) (legal : (u.withRx .listen).stepLegal r.hdr = none) :
    u.judge apply r = apply (u.withRx .listen) := by
  have passes : (u.withRx .listen).laterSteps r = none := by
    rw [State.laterSteps_order orders legal (fun e => absurd e stop) (fun e => absurd e commit),
      State.stepPrecondition_order orders commit start]
  have considers : (u.withRx .listen).Considers r :=
    ⟨by simp [Request.checkFails, check], awake, by simp [orders.1, Command.unused],
      by simp [Header.broadcastPermitted, orders.1, Request.orders_order orders, permitted]⟩
  rw [State.judge_broadcast broadcast, considers.settle_accept passes,
    State.recordValidation_of_none (State.validates_order orders commit start)]

end

/-- Settles O45: the effect of the two orders waits for the end of a reply, or comes at once when there is none. -/
theorem quietAndSoftResetWaitForReply : Obligations.QuietAndSoftResetWaitForReply := by
  intro s r command check hears count u
  have after {o : Order} {a : AfterReply} (orders : r.orders o)
      (e : r.hdr.order = some o → r.hdr.afterOf .accept = a) : (u.replyFor u r.hdr .accept).after = a :=
    e (Request.orders_order orders)
  refine ⟨fun direct new => ⟨fun code setup => ?quiet, fun code mode => ?soft⟩,
    fun broadcast => ⟨fun code setup => ?quietAtOnce, fun code mode => ?softAtOnce⟩⟩
  case quiet =>
    have orders : r.orders .enterQuiet := ⟨command, code, count⟩
    have fresh : s.hearsFresh r := ⟨hears, direct, by simp [command, Command.hasBlock], check, new⟩
    refine ⟨?_, after orders fun e => by simp [Header.afterOf, e]⟩
    rw [exec_order (c := .enterQuiet r.block) rfl (Request.orders_carries orders) fresh orders (by simp) (by simp)
      (State.stepLegal_orders orders (.inl setup) (fun e => nomatch e) (fun _ => setup) (fun e => nomatch e))
      (fun e => nomatch e)]
    refine congrArg (fun x => Host.Outcome.next (u.executed x r)) ?_
    change applyEnterQuiet r u = u
    simp [applyEnterQuiet, direct]
  case soft =>
    have orders : r.orders .softReset := ⟨command, code, count⟩
    have fresh : s.hearsFresh r := ⟨hears, direct, by simp [command, Command.hasBlock], check, new⟩
    refine ⟨?_, after orders fun e => by simp [Header.afterOf, e]⟩
    rw [exec_order (c := .softReset r.block) rfl (Request.orders_carries orders) fresh orders (by simp) (by simp)
      (State.stepLegal_orders orders mode (fun e => nomatch e) (fun e => nomatch e) (fun e => nomatch e))
      (fun e => nomatch e)]
    refine congrArg (fun x => Host.Outcome.next (u.executed x r)) ?_
    change applySoftReset r u = u
    simp [applySoftReset, direct]
  case quietAtOnce =>
    have orders : r.orders .enterQuiet := ⟨command, code, count⟩
    have row := exec_of_hears (c := .enterQuiet r.block) rfl hears (Request.orders_carries orders)
    refine ⟨(u.withRx .listen).goQuiet.cap, ?_, rfl, fun c hc => (u.withRx .listen).goQuiet_channel hc⟩
    rw [row, State.judge_broadcast_order broadcast orders check (by simp) (by simp) (by simp) (by simp)
      (show u.ctl.mode ≠ .selftest by simp [setup])
      (State.stepLegal_orders orders (.inl setup) (fun e => nomatch e) (fun _ => setup) (fun e => nomatch e))]
    change Host.Outcome.next (applyEnterQuiet r (u.withRx .listen)) = _
    rw [applyEnterQuiet, if_pos broadcast]
    rfl
  case softAtOnce =>
    have orders : r.orders .softReset := ⟨command, code, count⟩
    have row := exec_of_hears (c := .softReset r.block) rfl hears (Request.orders_carries orders)
    refine ⟨(u.withRx .listen).beginReset .soft, ?_,
      { State.beginReset_resetTo (u.withRx .listen) .soft with }, rfl⟩
    rw [row, State.judge_broadcast_order broadcast orders check (by simp) (by simp) (by simp) (by simp)
      (show u.ctl.mode ≠ .selftest by rcases mode with e | e <;> simp [e])
      (State.stepLegal_orders orders mode (fun e => nomatch e) (fun e => nomatch e) (fun e => nomatch e))]
    change Host.Outcome.next (applySoftReset r (u.withRx .listen)) = _
    rw [applySoftReset, if_pos broadcast]

/-! ## Every other broadcast -/

theorem Request.checkFails_iff (r : Request) :
    r.checkFails = true ↔ ¬(r.hdr.command.hasBlock = true → dataCheck r.words = r.check) := by
  simp [Request.checkFails]

theorem Header.broadcastPermitted_iff (h : Header) :
    h.broadcastPermitted = true ↔
      (h.command = .write ∧ h.address.toNat + max 1 h.count.toNat ≤ 0x120) ∨
        (h.command = .order ∧ Order.ofCode h.address.toNat ≠ some .runSelftest) := by
  unfold Header.broadcastPermitted
  cases command : h.command with
  | write =>
    simp only [Header.within_iff, true_and, reduceCtorEq, false_and, or_false]
    omega
  | order => simp [Header.order, command]
  | _ => simp

/-- Step 15 has validated the table of a COMMIT or START_RUN that it lets pass (R46, R87). -/
theorem State.validates_of_passes {u : State} {h : Header} (passes : u.stepPrecondition h = none)
    (order : h.order = some .commit ∨ h.order = some .startRun) :
    u.validates h = some (decide (h.order ≠ some .commit)) := by
  rcases order with e | e
  · simp [State.validates, e]
  · have passed : u.ctl.testPassed = true := by
      by_contra failed
      rw [Bool.not_eq_true] at failed
      simp [State.stepPrecondition, e, failed] at passes
    simp [State.validates, e, passed]

theorem State.stepPrecondition_of_passes {u : State} {r : Request} (passes : u.laterSteps r = none) :
    u.stepPrecondition r.hdr = none := by
  simp only [State.laterSteps, Option.or_eq_none_iff] at passes
  obtain ⟨-, -, -, -, -, -, -, table, -⟩ := passes
  exact table

theorem stopped_of_getD {x : Option Verdict} {v : Verdict} (h : x.getD .accept = v) (stop : v ≠ .accept) : x = some v := by
  cases x with
  | none => exact absurd h.symm stop
  | some w => exact congrArg some h

/-- Settles O50: the steps of R22 in their order; the later ones are those of a DIRECT request. -/
theorem broadcastsExecuteOrAreIgnored : Obligations.BroadcastsExecuteOrAreIgnored := by
  intro u apply r broadcast frames v direct forgetful order intact permitted
  have judged : u.judge apply r = v.settleBroadcast apply r := State.judge_broadcast broadcast
  have sound (h : intact) : r.checkFails = false := by
    rw [Bool.eq_false_iff, ne_eq, Request.checkFails_iff]
    exact not_not.2 h
  refine ⟨fun broken => ?broken, fun h test => ?test, fun h awake unused => ?unused,
    fun h awake known closed => ?closed, fun h awake free => ?considered⟩
  case broken =>
    rw [judged, State.settleBroadcast, if_pos ((Request.checkFails_iff r).2 broken), State.dataCheckFailed, satInc_eight,
      Header.checkDetail_eq]
    rfl
  case test =>
    rw [judged, State.settleBroadcast, if_neg (by simp [sound h]), if_pos (show v.ctl.mode = .selftest from test), satInc_eight]
    rfl
  case unused =>
    rw [judged, State.settleBroadcast, if_neg (by simp [sound h]), if_neg (show ¬v.ctl.mode = .selftest from awake), if_pos unused]
    rfl
  case closed =>
    have refused : r.hdr.broadcastPermitted = false := by
      rw [Bool.eq_false_iff, ne_eq, Header.broadcastPermitted_iff]
      exact closed
    rw [judged, State.settleBroadcast, if_neg (by simp [sound h]), if_neg (show ¬v.ctl.mode = .selftest from awake),
      if_neg (by simp [known]), if_pos (by simp [refused])]
    cases r.hdr.command <;> rfl
  case considered =>
    have known : r.hdr.command.unused = false := by rcases free with ⟨e, -⟩ | ⟨e, -⟩ <;> simp [e, Command.unused]
    have considers : v.Considers r := ⟨sound h, awake, known, (Header.broadcastPermitted_iff _).2 free⟩
    have same : forgetful.laterSteps direct = v.laterSteps r := rfl
    have verdict : forgetful.verdict direct = (v.laterSteps r).getD .accept := by
      rw [← same]
      exact State.verdict_of_direct (r := direct) rfl known (fun block => ⟨h block, rfl⟩)
    refine ⟨fun why stop table => ?_, fun stop => ?_, fun hint stop => ?_, fun accept => ?_⟩
    · rw [judged, considers.settle_refuse (stopped_of_getD (verdict.symm.trans stop) (by simp)) table]
      rfl
    · have stopped := stopped_of_getD (verdict.symm.trans stop) (by simp)
      have validates := State.validates_of_badTable (State.stepPrecondition_of_badTable stopped)
      have command : r.hdr.command = .order := by
        by_contra notOrder
        simp [State.validates, Header.order_of_not_order notOrder] at validates
      rw [judged, considers.settle_badTable stopped, State.recordValidation_of_some validates,
        ← Header.order_of_order command]
      rfl
    · rw [judged, considers.settle_defer (stopped_of_getD (verdict.symm.trans stop) (by simp))]
      rfl
    · have passes : v.laterSteps r = none := State.laterSteps_of_accept (s := forgetful) (r := direct) accept
      rw [judged, considers.settle_accept passes]
      refine ⟨fun commit start => congrArg apply (State.recordValidation_of_none ?_), fun validated => ?_⟩
      · rw [State.validates, if_neg (show ¬r.hdr.order = some .commit from commit), if_neg]
        simpa using fun e => absurd e (show ¬r.hdr.order = some .startRun from start)
      · exact congrArg apply (State.recordValidation_of_some
          (State.validates_of_passes (State.stepPrecondition_of_passes passes) validated))

end Sys2Proof.Machine
end

section
/-! SUPPORT. The path of a feed message (O53), frame markers (O54) and slot ticks (O55). -/

namespace Sys2Proof.Machine

set_option Elab.async false

open Sys2Proof (Instr Word Bank)

/-! ## Feeds -/

section
variable {s : State} {feed : BitVec 2} {bits : BitVec 25}

/-- An odd number of 1 bits fails the parity of a message (R66). -/
theorem parityFails_iff (bits : BitVec 25) :
    parityFails bits = true ↔ (List.range 25).countP (fun k => bits.getLsbD k) % 2 = 1 := by
  have reversed : bitsMsbFirst bits = ((List.range 25).map fun k => bits.getLsbD k).reverse := rfl
  rw [parityFails, reversed, oddOnes_eq, List.countP_reverse, ← oddOnes_eq, oddOnes_map, decide_eq_true_iff]

theorem State.considers_iff :
    s.considers feed = true ↔ (s.cap.feed feed.toNat).rx = .framing ∧ (s.ctl.mode = .setup ∨ s.ctl.mode = .run) ∧
      s.cap.feedCfg.getLsbD feed.toNat = true := by
  simp [State.considers, Capture.feedEnabled, and_assoc]

theorem State.takeMessage_of_ignored (h : ¬s.considers feed = true) : s.takeMessage feed bits = s := by
  simp [State.takeMessage, h]

theorem State.takeMessage_of_parity (h : s.considers feed = true) (odd : parityFails bits = true) :
    s.takeMessage feed bits = s.parityFailed feed bits := by
  simp [State.takeMessage, h, odd]

theorem State.takeMessage_of_unclaimed (h : s.considers feed = true) (even : parityFails bits = false)
    (free : (s.cap.channel (messageChannel feed bits)).enabled = false) :
    s.takeMessage feed bits = s.unclaimedMessage feed := by
  simp [State.takeMessage, h, even, free]

theorem State.takeMessage_of_claimed (h : s.considers feed = true) (even : parityFails bits = false)
    (claimed : (s.cap.channel (messageChannel feed bits)).enabled = true) :
    s.takeMessage feed bits = s.claimMessage (messageChannel feed bits) (messageValue bits) (messageOver bits) := by
  simp [State.takeMessage, h, even, claimed]

/-- DETAIL of FEED_PARITY (R66). -/
theorem parityDetail_eq (feed : BitVec 2) (index : BitVec 3) :
    octets2 (feed.setWidth 8) (index.setWidth 8) = 0#6 ++ feed ++ 0#5 ++ index := by
  revert feed index
  decide

end

/-- The offer of a record (R125). -/
theorem State.offer_eq (s : State) (o : Offer) :
    let dropped : State :=
      { s with
        stl := { s.stl with
          dropped := if s.stl.dropped = 65535 then 65535 else s.stl.dropped + 1
          disarmed := true, writerDue := true } }
    (s.stl.logPages = 0 → s.offer o = s) ∧
    (s.stl.logPages ≠ 0 → s.stl.queue.length < 8 →
      s.offer o = { s with stl := { s.stl with queue := s.stl.queue ++ [o], writerDue := true } }) ∧
    (s.stl.logPages ≠ 0 → 8 ≤ s.stl.queue.length → s.stl.disarmed = true → s.offer o = dropped) ∧
    (s.stl.logPages ≠ 0 → 8 ≤ s.stl.queue.length → s.stl.disarmed = false →
      s.offer o = dropped.raise .appendDrop (0#10 ++ o.channel)) := by
  intro dropped
  have detail : o.channel.setWidth 16 = 0#10 ++ o.channel := by
    generalize o.channel = x
    revert x
    decide
  have logOn : s.stl.logOn = true ↔ s.stl.logPages ≠ 0 := decide_eq_true_iff
  refine ⟨fun off => ?_, fun on room => ?_, fun on full disarmed => ?_, fun on full armed => ?_⟩
  · have off : s.stl.logOn = false := by simpa [Store.logOn] using off
    simp [State.offer, Store.raisesDrop, Store.offer, off]
  · simp [State.offer, Store.raisesDrop, Store.offer, logOn.2 on, Nat.not_le.2 room]
  · simp [State.offer, Store.raisesDrop, Store.offer, logOn.2 on, full, disarmed, dropped, satInc_sixteen]
  · rw [State.offer, if_pos (by simp [Store.raisesDrop, logOn.2 on, full, armed]), detail]
    simp [Store.offer, logOn.2 on, full, dropped, satInc_sixteen, State.raise]

/-- Settles O53: the branches of the path of a message. -/
theorem feedMessageJudged : Obligations.FeedMessageJudged := by
  refine ⟨fun feed bits prior => ?_, State.offer_eq⟩
  intro s f c ch ones n decimated taken u considered claimed
  have next : exec (.feedMessage feed bits) prior = .next (s.takeMessage feed bits) := rfl
  have considers : s.considers feed = true ↔ considered := State.considers_iff
  have parity : parityFails bits = true ↔ ones % 2 = 1 := parityFails_iff bits
  have even (h : ones % 2 = 0) : parityFails bits = false := by
    rw [Bool.eq_false_iff, ne_eq, parity]
    omega
  have claims (h : claimed) :
      exec (.feedMessage feed bits) prior = .next (s.claimMessage c (messageValue bits) (messageOver bits)) := by
    obtain ⟨h, e, enabled⟩ := h
    rw [next, State.takeMessage_of_claimed (considers.2 h) (even e) enabled]
    rfl
  have takes (first : ch.decim = 0) : ch.claim (messageValue bits) (messageOver bits) = taken := by
    rw [Channel.claim, if_pos first, satInc_eight]
    rfl
  refine ⟨fun h => ?_, fun h odd => ?_, fun h e free => ?_, fun h skip => ?_, fun h first quiet => ?_, fun h first run logged => ?_,
    fun waits => ?_, fun h => ?_⟩
  · rw [next, State.takeMessage_of_ignored (fun e => h (considers.1 e))]
  · rw [next, State.takeMessage_of_parity (considers.2 h) (parity.2 odd), State.parityFailed, parityDetail_eq, satInc_eight]
    rfl
  · rw [next, State.takeMessage_of_unclaimed (considers.2 h) (even e) free, State.unclaimedMessage, satInc_eight]
  · rw [claims h, State.claimMessage, if_neg (by simpa using fun first => absurd first skip)]
    change Host.Outcome.next { s with cap := s.cap.setChannel c (ch.claim (messageValue bits) (messageOver bits)) } = _
    rw [Channel.claim, if_neg skip]
    rfl
  · rw [claims h, State.claimMessage, if_neg]
    · change Host.Outcome.next { s with cap := s.cap.setChannel c (ch.claim (messageValue bits) (messageOver bits)) } = _
      rw [takes first]
    · simp only [Bool.and_eq_true, decide_eq_true_eq]
      exact fun e => quiet ⟨e.1.2, e.2⟩
  · rw [claims h, State.claimMessage, if_pos]
    · change Host.Outcome.next (State.offer
        { s with cap := s.cap.setChannel c (ch.claim (messageValue bits) (messageOver bits)) }
        (s.offerFor c (ch.claim (messageValue bits) (messageOver bits)).sample)) = _
      rw [takes first]
      rfl
    · simp only [Bool.and_eq_true, decide_eq_true_eq]
      exact ⟨⟨first, run⟩, logged⟩
  · exact if_pos waits
  · exact if_neg h

/-! ## Frame markers -/

section
variable {s : State} {n : BitVec 16}

/-- The roles exchanged, with the event (R79, R93). -/
theorem State.swapTables_eq (s : State) (cause : SwapCause) :
    s.swapTables cause =
      { s with sct := { s.sct with firstActive := !s.sct.firstActive, commit := none } }.raise .tableSwapped
        (cause.code ++ BitVec.ofNat 8 (s.sct.staged.length - 1)) := by
  rw [← s.sct.swap_roles.1]
  rfl

theorem Commit.due_iff (c : Commit) (n : BitVec 16) :
    c.due n = true ↔ (c.targeted = false ∨ c.late = true) ∨ (n - c.target).toNat < 32768 := by
  cases targeted : c.targeted <;> cases late : c.late <;> simp [Commit.due, Commit.waitsForTarget, targeted, late]

/-- What a marker does up to step 2 of R99 leaves the tables and the operating state alone. -/
theorem State.recordMarker_completeness_apart (s : State) (n : BitVec 16) :
    ((s.recordMarker n).completeness).sct = s.sct ∧ ((s.recordMarker n).completeness).ctl = s.ctl := by
  unfold State.completeness State.recordMarker State.laneFault
  dsimp only
  split_ifs <;> exact ⟨rfl, rfl⟩

end

/-- Settles O54: the steps of R99 in their order. -/
theorem frameMarkerProcessed : Obligations.FrameMarkerProcessed := by
  intro n prior s recorded checked judged swapped begun
  have next : exec (.frameMarker n) prior = .next (s.takeMarker n) := rfl
  have record : s.recordMarker n = checked := by simp [State.recordMarker, checked, recorded]
  have recordLane : checked.lane = recorded.lane := by simp only [checked]; split <;> rfl
  have complete : (s.recordMarker n).completeness = judged := by
    rw [record, State.completeness, recordLane, show checked.sct = s.sct by simp only [checked]; split <;> rfl]
  obtain ⟨sct, ctl⟩ := s.recordMarker_completeness_apart n
  rw [complete] at sct ctl
  have running (run : s.ctl.mode = .run) (now : s.ctl.stop ≠ some .now) :
      s.takeMarker n =
        if s.ctl.stop = some .atFrame then judged.leaveRun else begun (judged.commitAtMarker n) := by
    rw [State.takeMarker, if_neg (by simp [run]), if_neg now, complete]
    rfl
  refine ⟨fun away => ?_, fun run now => ?_, fun run atFrame => ?_, fun run none => ⟨fun free => ?_, fun c pending =>
    ⟨fun due => ?_, fun aimed inTime reached => ?_, fun aimed inTime ahead => ?_⟩⟩⟩
  · rw [next, State.takeMarker, if_pos away]
  · rw [next, State.takeMarker, if_neg (by simp [run]), if_pos now]
  · rw [next, running run (by simp [atFrame]), if_pos atFrame]
  all_goals
    rw [next, running run (by simp [none]), if_neg (by simp [none]), State.commitAtMarker, sct]
  · rw [free]
  · rw [pending]
    have waits : c.waitsForTarget = false := by rcases due with e | e <;> simp [Commit.waitsForTarget, e]
    dsimp only
    rw [if_pos ((c.due_iff n).2 (.inl due)), waits, State.swapTables_eq, sct]
    rfl
  · rw [pending]
    have waits : c.waitsForTarget = true := by simp [Commit.waitsForTarget, aimed, inTime]
    dsimp only
    rw [if_pos ((c.due_iff n).2 (.inr reached)), waits, State.swapTables_eq, sct]
    rfl
  · rw [pending]
    dsimp only
    rw [if_neg]
    rw [Commit.due_iff]
    simp only [aimed, inTime, reduceCtorEq, or_self, false_or]
    omega

/-! ## Slot ticks -/

/-- The first bit of the tag sent as 1 and read as 0 (R102). -/
theorem lostBit_eq_some {id others : BitVec 6} {i : Nat} (hi : i < 6)
    (before : ∀ j < i, id.getMsbD j = true → others.getMsbD j = true)
    (lost : ¬(id.getMsbD i = true → others.getMsbD i = true)) : lostBit id others = some (i + 1) := by
  have found : (List.range 6).find? (fun i => id.getMsbD i && !others.getMsbD i) = some i := by
    rw [List.find?_range_eq_some]
    refine ⟨?_, List.mem_range.2 hi, fun j hj => ?_⟩
    · simpa using lost
    · simpa [imp_iff_not_or] using before j hj
  rw [lostBit, found]
  rfl

theorem lostBit_eq_none {id others : BitVec 6} (all : ∀ i < 6, id.getMsbD i = true → others.getMsbD i = true) :
    lostBit id others = none := by
  rw [lostBit, Option.map_eq_none_iff, List.find?_eq_none]
  intro i hi
  have := all i (List.mem_range.1 hi)
  simpa using this

section
variable {s : State} {ltag : BitVec 6}

theorem State.takeTick_await (run : s.ctl.mode = .run) (now : s.ctl.stop ≠ some .now) (sub : s.lane.sub = .awaitFrame) :
    s.takeTick ltag = s := by
  simp [State.takeTick, run, now, sub]

theorem State.takeTick_walk (run : s.ctl.mode = .run) (now : s.ctl.stop ≠ some .now) (sub : s.lane.sub = .walking)
    (inside : s.lane.slotIndex < s.sct.active.length) : s.takeTick ltag = s.releaseSlot.walkEntry ltag := by
  simp [State.takeTick, run, now, sub, inside]

theorem State.takeTick_extra (run : s.ctl.mode = .run) (now : s.ctl.stop ≠ some .now)
    (beyond : s.lane.sub = .frameDone ∨ (s.lane.sub = .walking ∧ s.sct.active.length ≤ s.lane.slotIndex)) :
    s.takeTick ltag = s.releaseSlot.extraTick := by
  rcases beyond with sub | ⟨sub, out⟩
  · simp [State.takeTick, run, now, sub]
  · simp [State.takeTick, run, now, sub, Nat.not_lt.2 out]

/-- A tick on an entry that is not driven, or of a muted node, only moves the walk on (R101). -/
theorem State.walkEntry_passive
    (h : (s.sct.active.entry s.lane.slotIndex).getLsbD 6 = false ∨ s.lane.muted = true) :
    s.walkEntry ltag = { s with lane := s.lane.walkOn } := by
  have idle : ¬(entryDrive (s.sct.active.entry s.lane.slotIndex) && !s.lane.muted) = true := by
    rcases h with h | h
    · rw [entryDrive, h]
      simp
    · simp [h]
  simp only [State.walkEntry, if_neg idle]

/-- A tick on a driven entry contests its slot, and moves the walk on (R101, R102). -/
theorem State.walkEntry_driven (drive : (s.sct.active.entry s.lane.slotIndex).getLsbD 6 = true)
    (free : s.lane.muted = false) :
    s.walkEntry ltag =
      { s.driveSlot (entryChannel (s.sct.active.entry s.lane.slotIndex)) ltag with
        lane := (s.driveSlot (entryChannel (s.sct.active.entry s.lane.slotIndex)) ltag).lane.walkOn } := by
  have drives : (entryDrive (s.sct.active.entry s.lane.slotIndex) && !s.lane.muted) = true := by
    rw [entryDrive, drive, free]
    rfl
  simp only [State.walkEntry, if_pos drives]

theorem State.driveSlot_won {channel : Nat} (won : lostBit s.ident.nodeId ltag = none) :
    s.driveSlot channel ltag = s.placeWord channel := by
  rw [State.driveSlot, won]

theorem State.driveSlot_lost {channel bit : Nat} (lost : lostBit s.ident.nodeId ltag = some bit) :
    s.driveSlot channel ltag = s.loseSlot bit := by
  rw [State.driveSlot, lost]

/-- A fault leaves the walk where it is (R106, R107). -/
theorem State.laneFault_slotIndex (s : State) (k : LaneFault) (bit slot : Nat) :
    (s.laneFault k bit slot).lane.slotIndex = s.lane.slotIndex := by
  rcases s.laneFault_cases k bit slot with ⟨-, e⟩ | ⟨-, e⟩ <;> rw [e] <;> rfl

end

/-- Settles O55: by the sub-state, and for an entry that is driven by the tag phase. -/
theorem slotTickProcessed : Obligations.SlotTickProcessed := by
  intro ltag prior s length e c id readsBack walked driving extra tick
  have next : tick = .next (s.takeTick ltag) := rfl
  have walk (u : State) (same : u.lane.slotIndex = s.lane.slotIndex) : { u with lane := u.lane.walkOn } = walked u := by
    simp only [walked, Lane.walkOn, same]
  refine ⟨fun away => ?away, fun run now => ?now, fun run now => ⟨fun sub => ?await,
    fun sub inside => ⟨fun passive => ?passive, fun drive free all => ?won, fun i hi drive free before lost => ?lost⟩,
    fun beyond => ⟨fun again => ?again, fun first => ?first⟩⟩⟩
  case away => rw [next, State.takeTick, if_pos away]
  case now => rw [next, State.takeTick, if_neg (by simp [run]), if_pos now]
  case await => rw [next, State.takeTick_await run now sub]
  case passive =>
    rw [next, State.takeTick_walk run now sub inside, State.walkEntry_passive (s := s.releaseSlot) passive]
    exact congrArg Host.Outcome.next (walk (driving none) rfl)
  case won =>
    rw [next, State.takeTick_walk run now sub inside, State.walkEntry_driven (s := s.releaseSlot) drive free,
      State.driveSlot_won (s := s.releaseSlot) (lostBit_eq_none all)]
    exact congrArg Host.Outcome.next (walk (s.releaseSlot.placeWord c) rfl)
  case lost =>
    rw [next, State.takeTick_walk run now sub inside, State.walkEntry_driven (s := s.releaseSlot) drive free,
      State.driveSlot_lost (s := s.releaseSlot) (lostBit_eq_some hi before lost)]
    exact congrArg Host.Outcome.next (walk (s.releaseSlot.loseSlot (i + 1)) (State.laneFault_slotIndex _ _ _ _))
  case again =>
    rw [next, State.takeTick_extra run now beyond, State.extraTick,
      if_pos (show s.releaseSlot.lane.shortSeen = true from again)]
    rfl
  case first =>
    rw [next, State.takeTick_extra run now beyond, State.extraTick,
      if_neg (show ¬s.releaseSlot.lane.shortSeen = true from Bool.eq_false_iff.1 first)]
    rfl

end Sys2Proof.Machine
end

section
/-! SUPPORT. The step of the log writer (O59). -/

namespace Sys2Proof.Machine

set_option Elab.async false

open Sys2Proof (Instr Word Bank)

/-! ## The record and its place -/

/-- The words of a record (R124). -/
theorem Store.recordOf_eq (t : Store) (o : Offer) :
    t.recordOf o =
      [0#16 ++ o.seq ++ BitVec.ofBool o.overRange ++ 0#1 ++ o.channel, o.value.signExtend 32] ++
        (if t.stamp = true then [o.frame ++ o.slot, t.serial] else []) := by
  have first : fieldAt 0 o.channel ||| flagAt 7 o.overRange ||| fieldAt 8 o.seq =
      0#16 ++ o.seq ++ BitVec.ofBool o.overRange ++ 0#1 ++ o.channel := by
    rw [← fieldAt_whole (_ ++ _)]
    repeat rw [fieldAt_append]
    simp [flagAt, BitVec.or_assoc]
  have stamp : fieldAt 0 o.slot ||| fieldAt 16 o.frame = o.frame ++ o.slot := by
    rw [← fieldAt_whole (_ ++ _)]
    repeat rw [fieldAt_append]
  unfold Store.recordOf
  dsimp only
  rw [first, stamp]
  split <;> rfl

theorem Store.recordSize_cases (t : Store) : t.recordSize = 4 ∨ t.recordSize = 2 := by
  unfold Store.recordSize
  split
  · exact .inl rfl
  · exact .inr rfl

theorem Store.length_recordOf (t : Store) (o : Offer) : (t.recordOf o).length = t.recordSize := by
  rw [t.recordOf_eq, Store.recordSize]
  split <;> rfl

/-- A record place lies whole in one page (R123). -/
theorem Store.placeAddress_page (t : Store) (k : Nat) :
    0x4000 ≤ t.placeAddress k ∧ t.placeAddress k % 128 + t.recordSize ≤ 128 := by
  unfold Store.placeAddress
  rcases t.recordSize_cases with e | e <;> rw [e] <;> omega

/-- Words of one page follow each other in the store as they do on the link (R117). -/
theorem Store.physicalWord_add (t : Store) {a i : Nat} (lo : 0x4000 ≤ a) (page : a % 128 + i < 128) :
    t.physicalWord (a + i) = t.physicalWord a + i := by
  have same : logicalPage (a + i) = logicalPage a := by
    unfold logicalPage
    omega
  have offset : (a + i) % 128 = a % 128 + i := by omega
  rw [Store.physicalWord, Store.physicalWord, same, offset, Nat.add_assoc]

theorem Store.placed_nodup_page (t : Store) {a : Nat} (en : Nat → BitVec 4) {ws : List Word} (lo : 0x4000 ≤ a)
    (page : a % 128 + ws.length ≤ 128) : ((t.placed a en 0 ws).map (·.1)).Nodup := by
  have places : (t.placed a en 0 ws).map (·.1) = (List.range' 0 ws.length).map fun i => t.physicalWord (a + i) := by
    rw [Store.placed, List.map_map, ← List.zipIdx_map_snd 0 ws, List.map_map]
    rfl
  rw [places, List.nodup_map_iff_inj_on (List.nodup_range' ..)]
  intro i hi j hj e
  rw [List.mem_range'_1] at hi hj
  rw [t.physicalWord_add lo (by omega), t.physicalWord_add lo (by omega)] at e
  omega

/-! ## What the writer does to the store -/

section
variable {t : Store} {o : Offer}

theorem Store.full_iff (t : Store) : t.full = true ↔ t.logPages ≠ 0 ∧ t.count = t.capacity := by
  simp [Store.full, Store.logOn]

theorem Store.dropsAtWriter_iff (t : Store) :
    t.dropsAtWriter = true ↔
      t.logPages = 0 ∨ (t.count = t.capacity ∧ (t.overwrite = false ∨ t.inFlight ≠ 0)) := by
  by_cases off : t.logPages = 0 <;> simp [Store.dropsAtWriter, Store.full, Store.logOn, off]

theorem Store.capacity_pos (on : t.logPages ≠ 0) : 0 < t.capacity := by
  refine Nat.mul_pos (Nat.pos_of_ne_zero on) ?_
  unfold Store.placesPerPage
  rcases t.recordSize_cases with e | e <;> rw [e] <;> decide

theorem Store.logPages_le (t : Store) : t.logPages ≤ 128 := by
  unfold Store.logPages
  split <;> omega

theorem Store.capacity_le (t : Store) : t.capacity ≤ 8192 := by
  have pages := t.logPages_le
  have places : t.placesPerPage ≤ 64 := by
    unfold Store.placesPerPage
    rcases t.recordSize_cases with e | e <;> rw [e] <;> decide
  exact Nat.mul_le_mul pages places

/-- DETAIL of LOG_FULL (R132). -/
theorem Store.fullDetail_eq (t : Store) : t.fullDetail = BitVec.ofBool t.overwrite ++ BitVec.ofNat 15 t.capacity := by
  have small := t.capacity_le
  rw [Store.fullDetail]
  generalize t.capacity = c at small
  refine BitVec.eq_of_getLsbD_eq fun j hj => ?_
  have high (h : 14 < j) : c.testBit j = false := by
    exact Nat.testBit_lt_two_pow (lt_of_le_of_lt small (lt_of_lt_of_le (by decide : 8192 < 2 ^ 15)
      (Nat.pow_le_pow_right (by decide) h)))
  rw [BitVec.getLsbD_or, BitVec.getLsbD_append]
  by_cases h : j < 15
  · simp [h, hj, BitVec.getLsbD_ofNat, -BitVec.getLsbD_eq_getElem]
  · have top : j = 15 := by omega
    subst top
    simp [high, BitVec.getLsbD_ofNat, -BitVec.getLsbD_eq_getElem]

/-- A record written to the log (R127, R128). -/
theorem Store.writeRecord_of_room (on : t.logPages ≠ 0) :
    t.writeRecord o =
      { t with
        mem := t.mem.writeAll (t.placed (t.placeAddress t.tail) (fun _ => 0xF) 0 (t.recordOf o))
        head := if t.count = t.capacity then t.placeAfter t.head 1 else t.head
        tail := t.placeAfter t.tail 1
        count := if t.count = t.capacity then t.count else t.count + 1
        overwritten := if t.count = t.capacity then satInc t.overwritten else t.overwritten
        serial := t.serial + 1 } := by
  have mem (t' : Store) (a : Nat) (ws : List Word) :
      t'.writeWords a ws = { t' with mem := t'.mem.writeAll (t'.placed a (fun _ => 0xF) 0 ws) } := by
    obtain ⟨m, e⟩ := t'.writeWords_eq a ws
    rw [← t'.writeWords_placed a ws 0, Nat.add_zero, e]
  unfold Store.writeRecord
  dsimp only
  by_cases full : t.count = t.capacity
  · have pos := Store.capacity_pos on
    rw [if_pos ((t.full_iff).2 ⟨on, full⟩), mem]
    simp only [if_pos full, Store.discardOldest]
    rw [Nat.sub_add_cancel (by omega)]
    rfl
  · rw [if_neg (fun e => full ((t.full_iff).1 e).2), mem]
    simp only [if_neg full]
    rfl

end

/-! ## The counts that the step begins -/

/-- A step that begins no timed count leaves the open instant as it is. -/
theorem State.noteBegun_of_none {s b : State} (h : ∀ c, s.runs c = true → b.runs c = true) : s.noteBegun b = s := by
  have none : [TimedCount.opening .bank0, .opening .bank1, .softStep, .phase].filter
      (fun c => s.runs c && !b.runs c) = [] := by
    rw [List.filter_eq_nil_iff]
    intro c _
    have := h c
    cases hs : s.runs c <;> simp_all
  have same : s.now.map (·.begins []) = s.now := by
    cases s.now with
    | none => rfl
    | some m => simp [Moment.begins]
  rw [State.noteBegun]
  rw [none, same]

/-- A step that begins one page open notes it (R119). -/
theorem State.noteBegun_opening {s b : State} {bank : Bank} (started : (s.stl.bank bank).isOpening = true)
    (idle : (b.stl.bank bank).isOpening = false)
    (rest : ∀ c, c ≠ .opening bank → s.runs c = true → b.runs c = true) :
    s.noteBegun b = { s with now := s.now.map fun m => { m with begun := m.begun ++ [.opening bank] } } := by
  have one : [TimedCount.opening .bank0, .opening .bank1, .softStep, .phase].filter
      (fun c => s.runs c && !b.runs c) = [.opening bank] := by
    have other (c : TimedCount) (h : c ≠ .opening bank) : (s.runs c && !b.runs c) = false := by
      have := rest c h
      cases hs : s.runs c <;> simp_all
    have this : (s.runs (.opening bank) && !b.runs (.opening bank)) = true := by
      simp [State.runs, started, idle]
    cases bank <;> simp [other, this]
  rw [State.noteBegun]
  rw [one]
  rfl

/-! ## The statement -/

theorem Store.crossesWatermark_iff (before after : Store) (level : after.watermarkLevel = before.watermarkLevel) :
    before.crossesWatermark after = true ↔ before.count < before.watermarkLevel ∧ before.watermarkLevel ≤ after.count := by
  simp only [Store.crossesWatermark, level, ne_eq, decide_not, Bool.and_eq_true, Bool.not_eq_true', decide_eq_false_iff_not,
    decide_eq_true_eq]
  omega

theorem Store.becomesFull_iff (before after : Store) (capacity : after.capacity = before.capacity) :
    before.becomesFull after = true ↔ before.count < before.capacity ∧ after.count = before.capacity := by
  simp [Store.becomesFull, capacity]

/-- The events of a record written, by the counts before and after it (R127 step 4). -/
def State.writeEvents (s : State) (before : Store) (count : Nat) : State :=
  let watermark : State → State := fun u =>
    if before.count < before.watermarkLevel ∧ before.watermarkLevel ≤ count then
      u.raise .logWatermark (BitVec.ofNat 16 count)
    else u
  let fills : State → State := fun u =>
    if before.count < before.capacity ∧ count = before.capacity then
      u.raise .logFull (BitVec.ofBool before.overwrite ++ BitVec.ofNat 15 before.capacity)
    else u
  fills (watermark s)

theorem State.writeEvents_ctl (s : State) (before : Store) (count : Nat) :
    (s.writeEvents before count).ctl = s.ctl := by
  unfold State.writeEvents
  dsimp only
  split_ifs <;> simp only [State.raise_ctl]

theorem State.logEvents_eq {s : State} {before after : Store} (level : after.watermarkLevel = before.watermarkLevel)
    (capacity : after.capacity = before.capacity) (overwrite : after.overwrite = before.overwrite) :
    ({ s with stl := after } : State).logEvents before =
      { s.writeEvents before after.count with stl := after } := by
  unfold State.logEvents State.writeEvents
  simp only [Store.crossesWatermark_iff before after level, Store.becomesFull_iff before after capacity,
    Store.fullDetail_eq, capacity, overwrite]
  split_ifs <;> rfl

theorem exec_logWriterStep {prior : State} (awake : prior.ctl.mode ≠ .reset) (due : prior.stl.writerDue = true) :
    exec .logWriterStep prior = .next ((prior.reach 60).writerStep.noteBegun (prior.reach 60)) :=
  if_pos (by simp [awake, due])

/-- Settles O59: by the branches of R126. -/
theorem logWriterTakesStep : Obligations.LogWriterTakesStep := by
  refine ⟨fun s reset => if_neg (by simp [reset]), fun prior awake => ?none, fun prior awake due =>
    exec_logWriterStep awake due, fun prior o rest awake => ?step⟩
  case none =>
    intro s void
    by_cases due : prior.stl.writerDue = true
    · have here : s = prior.reach 60 := if_pos due
      rw [exec_logWriterStep awake due, ← here]
      rcases s.writerStep_cases with ⟨-, e⟩ | ⟨o, rest, due', up, queue, -⟩
      · rw [e, State.noteBegun_of_none (fun c h => by rcases c with (_ | _) | _ | _ <;> exact h)]
        rfl
      · rcases void with h | h | h
        · simp [due'] at h
        · exact absurd h up
        · simp [queue] at h
    · have here : s = prior := if_neg due
      have quiet : s.stl.writerDue = false := by simpa [here] using due
      have same : ({ s.stl with writerDue := false } : Store) = s.stl := by rw [← quiet]
      rw [same, here]
      exact if_neg (by simp [due])
  case step =>
    intro s due up queue t waits popped page bank full drops isOpen count record place watermark fills
    have priorDue : prior.stl.writerDue = true := by
      by_contra h
      have here : s = prior := if_neg h
      exact h (here ▸ due)
    have here : s = prior.reach 60 := if_pos priorDue
    have next : exec .logWriterStep prior = .next ((waits.treatRecord o).noteBegun s) := by
      rw [exec_logWriterStep awake priorDue, ← here]
      rcases s.writerStep_cases with ⟨void, -⟩ | ⟨o', rest', -, -, queue', e⟩
      · rcases void with h | h | h
        · simp [due] at h
        · exact absurd h up
        · simp [queue] at h
      · rw [e, show o' = o by rw [queue] at queue'; exact (List.cons.inj queue').1.symm]
        rfl
    have dropsIff : waits.stl.dropsAtWriter = true ↔ drops := by
      rw [Store.dropsAtWriter_iff]
      rfl
    have openIff : waits.stl.pageOpen (waits.stl.placePage waits.stl.tail) = true ↔ isOpen := Store.pageOpen_iff _ _
    have pops : waits.stl.popQueue = popped := by
      simp only [Store.popQueue, waits, popped]
      rw [show t.queue = o :: rest from queue]
      cases rest <;> simp
    have kept (u : State) (ctl : u.ctl = s.ctl) (b0 : u.stl.bank0 = t.bank0) (b1 : u.stl.bank1 = t.bank1) :
        u.noteBegun s = u := by
      refine State.noteBegun_of_none fun c h => ?_
      rcases c with (_ | _) | _ | _
      · exact (congrArg PageState.isOpening b0 ▸ h : t.bank0.isOpening = true)
      · exact (congrArg PageState.isOpening b1 ▸ h : t.bank1.isOpening = true)
      · exact (ctl ▸ h : s.ctl.softStep.isSome = true)
      · exact (ctl ▸ h : decide (s.ctl.mode = .selftest) = true)
    refine ⟨fun drop => ?drop, fun stays shut busy => ?wait, fun stays shut idle => ?opens, fun stays open' => ?write⟩
    case drop =>
      rw [next, State.treatRecord, if_pos (dropsIff.2 drop),
        kept { s with stl := waits.stl.dropAtWriter } rfl rfl rfl, Store.dropAtWriter, pops, satInc_sixteen]
    case wait =>
      rw [next, State.treatRecord, if_neg (mt dropsIff.1 stays), if_neg (mt openIff.1 shut),
        if_pos (show (waits.stl.bank (waits.stl.bankOf (waits.stl.placePage waits.stl.tail))).isOpening = true from busy),
        kept waits rfl rfl rfl]
    case opens =>
      have free : ¬(waits.stl.bank (waits.stl.bankOf (waits.stl.placePage waits.stl.tail))).isOpening = true :=
        Bool.eq_false_iff.1 idle
      rw [next, State.treatRecord, if_neg (mt dropsIff.1 stays), if_neg (mt openIff.1 shut), if_neg free]
      have other (c : TimedCount) (apart : c ≠ .opening bank)
          (h : ({ s with stl := waits.stl.setBank bank (.opening (t.physicalPage page) 20) } : State).runs c = true) :
          s.runs c = true := by
        rcases c with b | _ | _
        · have ne : b ≠ bank := fun e => apart (congrArg _ e)
          cases hb : bank <;> cases b <;> first | exact absurd hb.symm ne | (rw [hb] at h; exact h)
        · exact h
        · exact h
      refine congrArg Host.Outcome.next (State.noteBegun_opening
        (s := { s with stl := waits.stl.setBank bank (.opening (t.physicalPage page) 20) }) ?_ idle other)
      cases bank <;> rfl
    case write =>
      have on : t.logPages ≠ 0 := fun e => stays (.inl e)
      have written : (waits.stl.writeRecord o).popQueue =
          { popped with
            mem := t.mem.writeAll (t.placed place (fun _ => 0xF) 0 record)
            head := if full then t.placeAfter t.head 1 else t.head
            tail := t.placeAfter t.tail 1
            count := count
            overwritten :=
              if full then (if t.overwritten = 65535 then 65535 else t.overwritten + 1) else t.overwritten
            serial := t.serial + 1 } := by
        rw [Store.writeRecord_of_room (t := waits.stl) on, waits.stl.recordOf_eq o, satInc_sixteen, ← pops]
        rfl
      have size : record.length = t.recordSize := by
        rw [← t.length_recordOf o, t.recordOf_eq o]
      have lies := t.placeAddress_page t.tail
      refine ⟨t.mem.writeAll (t.placed place (fun _ => 0xF) 0 record), ?_, fun canonical => Memory.writeAll_wf _ canonical,
        fun canonical j hj => ?_, fun canonical b hb => ?_⟩
      · rw [next, State.treatRecord, if_neg (mt dropsIff.1 stays), if_pos (openIff.2 open'), written]
        rw [State.logEvents_eq (s := s) (before := waits.stl) (after := { popped with
            mem := t.mem.writeAll (t.placed place (fun _ => 0xF) 0 record)
            head := if full then t.placeAfter t.head 1 else t.head
            tail := t.placeAfter t.tail 1
            count := count
            overwritten :=
              if full then (if t.overwritten = 65535 then 65535 else t.overwritten + 1) else t.overwritten
            serial := t.serial + 1 }) rfl rfl rfl]
        rw [kept]
        · rfl
        · exact State.writeEvents_ctl ..
        · rfl
        · rfl
      · refine Memory.readWord_writeAll_same canonical (t.placed_nodup_page _ lies.1 (size ▸ lies.2)) ?_
        simpa using t.mem_placed (a := place) (k := 0) (en := fun _ => 0xF) hj
      · refine Memory.read_writeAll_other canonical fun p hp => ?_
        obtain ⟨i, hi, e⟩ := Store.of_mem_placed hp
        rw [e, Nat.zero_add]
        exact hb i hi

end Sys2Proof.Machine
end

section
/-! SUPPORT. The operating state and every block, act by act (O7). The receive state is kept apart: `State.ModesCore` is what
`State.ModesConsistent` says of the rest of the node. -/

namespace Sys2Proof.Machine

set_option Elab.async false

open Sys2Proof (Instr LinkUnit Bank Word)

/-! ## The parts of the invariant -/

/-- The operating state agrees with every block but the receive state. -/
structure State.ModesCore (s : State) : Prop where
  held : s.ctl.mode = .reset ↔ s.resetHeld = true
  unnamed : s.ctl.rstnLow = true ∨ 64 ≤ s.link.beacons.toNat → s.ident.nodeId = 0
  empty : s.ctl.mode = .reset → s.HeldEmpty
  testing : s.ste.phase ≠ .idle ↔ s.ctl.mode = .selftest
  atRest : s.ctl.mode ≠ .run → s.lane.AtRest ∧ s.ctl.stop = none ∧ s.sct.commit = none
  running : s.ctl.mode = .run → s.ident.named = true ∧ s.ctl.testPassed = true ∧ s.lane.sub ≠ .none

/-- In RESET and QUIET the link interface stays in LISTEN (R3). -/
def State.Listening (s : State) : Prop := s.ctl.mode = .reset ∨ s.ctl.mode = .quiet → s.link.rx = .listen

theorem State.modesConsistent_iff (s : State) : s.ModesConsistent ↔ s.ModesCore ∧ s.Listening ∧ s.EndingLegal :=
  ⟨fun h => ⟨⟨h.held, h.unnamed, h.empty, h.testing, h.atRest, h.running⟩, h.listening, h.ending⟩,
    fun ⟨h, listening, ending⟩ => ⟨listening, h.held, h.unnamed, h.empty, h.testing, ending, h.atRest, h.running⟩⟩

theorem State.ModesConsistent.core {s : State} (h : s.ModesConsistent) : s.ModesCore := (s.modesConsistent_iff.1 h).1

/-- What the operating state is compared with, the queues apart. -/
def State.modeView (s : State) : Control × BitVec 8 × BitVec 6 × Phase × Option Commit × Lane :=
  (s.ctl, s.link.beacons, s.ident.nodeId, s.ste.phase, s.sct.commit, s.lane)

section
variable {s t : State}

theorem State.resetHeld_eq_false_iff (s : State) :
    s.resetHeld = false ↔ s.ctl.rstnLow = false ∧ s.link.beacons.toNat < 64 ∧ s.ctl.softStep = none := by
  simp [State.resetHeld, and_assoc]

theorem State.ModesCore.of_eq (h : s.ModesCore) (e : t.modeView = s.modeView)
    (empty : s.ctl.mode = .reset → s.HeldEmpty → t.HeldEmpty) : t.ModesCore := by
  simp only [State.modeView, Prod.mk.injEq] at e
  obtain ⟨ctl, beacons, nodeId, phase, commit, lane⟩ := e
  have held := h.held
  have unnamed := h.unnamed
  have running := h.running
  constructor
  · simpa [State.resetHeld, ctl, beacons] using held
  · simpa [ctl, beacons, nodeId] using unnamed
  · exact fun reset => empty (ctl ▸ reset) (h.empty (ctl ▸ reset))
  · rw [phase, ctl]; exact h.testing
  · rw [lane, ctl, commit]; exact h.atRest
  · simpa [Ident.named, ctl, nodeId, lane] using running

theorem State.ModesConsistent.of_eq (h : s.ModesConsistent) (e : t.modeView = s.modeView) (rx : t.link.rx = s.link.rx)
    (empty : s.ctl.mode = .reset → s.HeldEmpty → t.HeldEmpty) : t.ModesConsistent := by
  have ctl : t.ctl = s.ctl := congrArg Prod.fst e
  refine t.modesConsistent_iff.2 ⟨h.core.of_eq e empty, ?_, ?_⟩
  · rw [State.Listening, ctl, rx]; exact h.listening
  · rw [State.EndingLegal, ctl, rx]; exact h.ending

/-- A node outside RESET, block by block. -/
theorem State.ModesCore.awake (awake : s.ctl.mode ≠ .reset) (free : s.resetHeld = false)
    (testing : s.ste.phase ≠ .idle ↔ s.ctl.mode = .selftest)
    (atRest : s.ctl.mode ≠ .run → s.lane.AtRest ∧ s.ctl.stop = none ∧ s.sct.commit = none)
    (running : s.ctl.mode = .run → s.ident.named = true ∧ s.ctl.testPassed = true ∧ s.lane.sub ≠ .none) :
    s.ModesCore where
  held := ⟨fun e => absurd e awake, fun e => absurd e (by simp [free])⟩
  unnamed h := by
    obtain ⟨high, short, -⟩ := s.resetHeld_eq_false_iff.1 free
    rcases h with h | h
    · simp [high] at h
    · omega
  empty e := absurd e awake
  testing := testing
  atRest := atRest
  running := running

theorem State.ModesCore.free (h : s.ModesCore) (awake : s.ctl.mode ≠ .reset) : s.resetHeld = false := by
  cases e : s.resetHeld
  · rfl
  · exact absurd (h.held.2 e) awake

theorem State.ModesCore.idle (h : s.ModesCore) (mode : s.ctl.mode ≠ .selftest) : s.ste.phase = .idle := by
  by_contra running
  exact mode (h.testing.1 running)

/-- A link interface in LISTEN owes no reply. -/
theorem State.ModesCore.listen (h : s.ModesCore) (rx : s.link.rx = .listen) : s.ModesConsistent :=
  s.modesConsistent_iff.2 ⟨h, fun _ => rx, by simp [State.EndingLegal, rx, RxState.reply?]⟩

/-- A node that frames requests and owes no reply. -/
theorem State.ModesCore.framing (h : s.ModesCore) (frames : s.ctl.mode.frames = true) (noReply : s.link.rx.reply? = none) :
    s.ModesConsistent :=
  s.modesConsistent_iff.2
    ⟨h, fun m => by rcases m with m | m <;> simp [m, Mode.frames] at frames, by simp [State.EndingLegal, noReply]⟩

theorem State.ModesConsistent.frames_of_rx (h : s.ModesConsistent) (rx : s.link.rx ≠ .listen) : s.ctl.mode.frames = true := by
  have listening := h.listening
  cases mode : s.ctl.mode <;> simp_all [Mode.frames]

/-! ## Resets, and the ways out of RESET and RUN -/

theorem Lane.atRest_leave (l : Lane) : l.leave.AtRest := ⟨rfl, rfl, rfl, rfl, rfl, rfl, rfl, rfl, rfl⟩

theorem Lane.atRest_reset : Lane.reset.AtRest := ⟨rfl, rfl, rfl, rfl, rfl, rfl, rfl, rfl, rfl⟩

theorem Lane.AtRest.clearFaults {l : Lane} (h : l.AtRest) : l.clearFaults.AtRest := by
  obtain ⟨sub, index, inSlot, marker, short, -, count, expired, drive⟩ := h
  exact ⟨sub, index, inSlot, marker, short, rfl, count, expired, drive⟩

/-- A reset under a cause that holds. -/
theorem State.ModesCore.beginReset {k : ResetCause} (cause : (s.beginReset k).resetHeld = true)
    (unnamed : k = .soft → s.ctl.rstnLow = true ∨ 64 ≤ s.link.beacons.toNat → s.ident.nodeId = 0) :
    (s.beginReset k).ModesConsistent := by
  refine State.ModesCore.listen ⟨⟨fun _ => cause, fun _ => rfl⟩, fun h => ?_, fun _ => ⟨rfl, rfl, rfl, rfl, rfl⟩,
    ⟨fun e => absurd rfl e, fun e => nomatch e⟩, fun _ => ⟨Lane.atRest_reset, rfl, rfl⟩, fun e => nomatch e⟩ rfl
  by_cases soft : k = .soft
  · subst soft
    exact unnamed rfl h
  · simp [Ident.reset, ResetCause.isSoft, soft]

theorem State.ModesCore.tryLeaveReset (h : s.ModesCore) (rx : s.link.rx = .listen) (mid : BitVec 4) :
    (s.tryLeaveReset mid).ModesConsistent := by
  rcases s.tryLeaveReset_cases mid with ⟨reset, free, e⟩ | ⟨-, e⟩ <;> rw [e]
  · obtain ⟨rest, stop, commit⟩ := h.atRest (by simp [reset])
    refine State.ModesCore.listen (.awake (fun e => nomatch e) free ?_ (fun _ => ⟨rest, stop, commit⟩) (fun e => nomatch e)) rx
    simp [State.testBegun]
  · exact h.listen rx

theorem State.commitOnStop_commit (s : State) : s.commitOnStop.sct.commit = none := by
  unfold State.commitOnStop
  split
  · rfl
  · exact Option.not_isSome_iff_eq_none.1 ‹_›

theorem State.ModesCore.leaveRun (h : s.ModesCore) (run : s.ctl.mode = .run) : s.leaveRun.ModesCore := by
  have idle := h.idle (by simp [run])
  refine .awake (by simp) ?_ (by simp [idle]) (fun _ => ?_) (by simp)
  · have free := h.free (by simp [run])
    rw [State.resetHeld_eq_false_iff] at free ⊢
    simpa using free
  · exact ⟨by simpa using s.lane.atRest_leave, by simp, by simpa using s.commitOnStop_commit⟩

theorem State.HeldEmpty.raise (reset : s.ctl.mode = .reset) (h : s.HeldEmpty) (k : EventKind) (d : BitVec 16) :
    (s.raise k d).HeldEmpty := by
  rwa [State.raise_of_silent (.inl reset)]

theorem State.ModesConsistent.raise (h : s.ModesConsistent) (k : EventKind) (d : BitVec 16) :
    (s.raise k d).ModesConsistent :=
  h.of_eq rfl rfl fun reset empty => empty.raise reset k d

end

/-! ## Requests -/

/-- What an order does (R57). -/
def Order.effect (o : Order) (r : Request) : State → State :=
  match o with
  | .startRun => applyStartRun r
  | .stopRun => applyStopRun r
  | .enterQuiet => applyEnterQuiet r
  | .softReset => applySoftReset r
  | .runSelftest => applyRunSelftest r
  | .commit => applyCommit r
  | .discardStaged => applyDiscardStaged r
  | .clearMute => applyClearMute r
  | .logReset => applyLogReset r

/-- The effect of a row is that of the command of its requests, and of their order (R10, R57). -/
theorem effectOf_cases {c : Instr} {r : Request} (serves : rowServes c r.hdr) :
    (r.hdr.command = .write ∧ effectOf c r = applyWrite r) ∨ (r.hdr.command = .setId ∧ effectOf c r = applySetId r) ∨
      (r.hdr.command = .drain ∧ effectOf c r = applyDrain r) ∨
      (∃ o, r.hdr.order = some o ∧ effectOf c r = o.effect r) ∨ (r.hdr.order = none ∧ effectOf c r = id) := by
  have order {o : Order} (h : r.hdr.carries o) (e : effectOf c r = o.effect r) :
      ∃ o, r.hdr.order = some o ∧ effectOf c r = o.effect r := ⟨o, (r.hdr.order_eq_some_iff o).2 h, e⟩
  cases c with
  | startRun b | stopRun b | enterQuiet b | softReset b | runSelftest b | commit b | discardStaged b | clearMute b
  | logReset b => exact .inr (.inr (.inr (.inl (order serves rfl))))
  | setId b => exact .inr (.inl ⟨serves, rfl⟩)
  | drain => exact .inr (.inr (.inl ⟨serves, rfl⟩))
  | read | storeRead => exact .inr (.inr (.inr (.inr ⟨Header.order_of_not_order (by simp [serves.1]), rfl⟩)))
  | unusedCommand =>
    refine .inr (.inr (.inr (.inr ⟨Header.order_of_not_order ?_, rfl⟩)))
    rcases serves with h | h | h <;> simp [h]
  | unknownOrder b =>
    exact .inr (.inr (.inr (.inr ⟨by rw [Header.order_of_order serves.1]; exact serves.2, rfl⟩)))
  | registerWrite b | linkStatusClear b | feedStatusClear b | channelRecordWrite b | supersedeClear b
  | activeTableWrite b | stagedTableWrite b | frameWatchWrite b | storeCfgWrite b | storeWrite b
  | logLossClear b | eventRetire b | alertEnableWrite b => exact .inl ⟨serves.1, rfl⟩
  | clearLost b => exact .inl ⟨serves.1.1, rfl⟩
  | _ => exact serves.elim

section
variable {s u : State} {r : Request}

theorem State.stepLegal_of_passes (h : s.laterSteps r = none) : s.stepLegal r.hdr = none := by
  rw [State.laterSteps, Option.or_eq_none_iff] at h
  exact h.1

/-- Where an order that passes is legal (R58). -/
theorem State.order_legal {o : Order} (passes : s.laterSteps r = none) (order : r.hdr.order = some o) :
    (s.ctl.mode = .setup ∧ o ≠ .stopRun ∧ (o = .startRun → s.ident.named = true)) ∨
      (s.ctl.mode = .run ∧ o.needsSetup = false) := by
  have legal := State.stepLegal_of_passes passes
  have command : r.hdr.command = .order := ((r.hdr.order_eq_some_iff o).1 order).1
  cases mode : s.ctl.mode with
  | setup =>
    rw [State.stepLegal_setup mode, State.legalInSetup, order] at legal
    refine .inl ⟨rfl, ?_, ?_⟩ <;> rintro rfl <;> simpa using legal
  | run =>
    rw [State.stepLegal_run mode, State.legalInRun, order] at legal
    refine .inr ⟨rfl, ?_⟩
    simpa [command] using legal
  | selftest =>
    rw [State.stepLegal_selftest mode, Header.legalInSelftest, command] at legal
    simp at legal
  | reset | quiet => simp [State.stepLegal, mode] at legal

/-- SET_ID is legal in SETUP only (R58). -/
theorem State.setId_legal (passes : s.laterSteps r = none) (command : r.hdr.command = .setId) :
    s.ctl.mode = .setup := by
  have legal := State.stepLegal_of_passes passes
  cases mode : s.ctl.mode with
  | setup => rfl
  | run => simp [State.stepLegal_run mode, State.legalInRun, command] at legal
  | selftest => simp [State.stepLegal_selftest mode, Header.legalInSelftest, command] at legal
  | reset | quiet => simp [State.stepLegal, mode] at legal

/-- A START_RUN that passes finds a test that has passed (R46). -/
theorem State.testPassed_of_passes (passes : s.laterSteps r = none) (order : r.hdr.order = some .startRun) :
    s.ctl.testPassed = true := by
  simp only [State.laterSteps, Option.or_eq_none_iff] at passes
  obtain ⟨-, -, -, -, -, -, -, precondition, -⟩ := passes
  by_contra failed
  rw [Bool.not_eq_true] at failed
  simp [State.stepPrecondition, order, failed] at precondition

/-! ## What a verdict leads to -/

section
variable {P Q : State → Prop} {apply : State → State}

/-- A verdict leads from `P` to `Q` when the command does in a request that passes. -/
theorem State.settle_leads (v : State.VerdictKeeps P) (remember : ∀ u, Q u → Q (u.remember r)) (weaken : ∀ u, P u → Q u)
    (executes : s.laterSteps r = none → ∀ u, P u → Q (apply u)) (hs : P s) : Q (s.settle apply r (s.verdict r)) := by
  rcases s.settle_cases apply r (s.verdict r) with ⟨accept, e⟩ | ⟨-, e⟩ | ⟨-, e⟩ | ⟨-, e⟩ | ⟨-, e⟩ <;> rw [e]
  · exact remember _ (executes (State.laterSteps_of_accept accept) _ (v.validation _ _ hs))
  · exact weaken _ (v.checkFailed _ _ hs)
  · exact weaken _ (v.validation _ _ hs)
  · exact weaken _ (v.opening _ _ hs)
  · exact weaken _ hs

/-- What a broadcast leads to. -/
theorem State.settleBroadcast_leads (v : State.VerdictKeeps P) (weaken : ∀ u, P u → Q u)
    (executes : s.laterSteps r = none → ∀ u, P u → Q (apply u)) (hs : P s) : Q (s.settleBroadcast apply r) := by
  unfold State.settleBroadcast
  split_ifs
  · exact weaken _ (v.checkFailed _ _ hs)
  · exact weaken _ (v.missed _ hs)
  · exact weaken _ (v.ignored _ _ _ hs)
  · exact weaken _ (v.ignored _ _ _ hs)
  · split
    · exact executes ‹_› _ (v.validation _ _ hs)
    · exact weaken _ (v.ignored _ _ _ (v.validation _ _ hs))
    · exact weaken _ (v.ignored _ _ _ hs)
    · exact weaken _ (v.ignored _ _ _ hs)
    · exact weaken _ hs
    · exact weaken _ hs

/-- What a judged request leads to. -/
theorem State.judge_leads (v : State.VerdictKeeps P) (rx : ∀ u x, Q u → Q (u.withRx x))
    (remember : ∀ u, Q u → Q (u.remember r)) (weaken : ∀ u, P u → Q u)
    (executes : s.laterSteps r = none → ∀ u, P u → Q (apply u)) (hs : P s) : Q (s.judge apply r) := by
  by_cases cast : r.hdr.addressing = .broadcast
  · rw [State.judge_broadcast cast]
    exact State.settleBroadcast_leads v weaken (fun passes => executes passes) (v.rx _ _ hs)
  · rw [State.judge_addressed cast]
    exact rx _ _ (State.settle_leads v remember weaken executes hs)

end

/-! ## The operating state through a request -/

@[simp] theorem State.recordValidation_commit (s : State) (h : Header) :
    (s.recordValidation h).sct.commit = s.sct.commit := by
  unfold State.recordValidation
  split <;> rfl

/-- A change of the lane sequencer that keeps the sub-state, and the rest outside RUN. -/
theorem State.ModesCore.withLane {l : Lane} (h : s.ModesCore) (rest : s.lane.AtRest → l.AtRest) (sub : l.sub = s.lane.sub) :
    ({ s with lane := l } : State).ModesCore where
  held := h.held
  unnamed := h.unnamed
  empty := h.empty
  testing := h.testing
  atRest m := ⟨rest (h.atRest m).1, (h.atRest m).2⟩
  running m := ⟨(h.running m).1, (h.running m).2.1, sub ▸ (h.running m).2.2⟩

theorem Lane.AtRest.writeWatch {l : Lane} (h : l.AtRest) (w : Word) : (l.writeWatch w).AtRest := by
  obtain ⟨sub, index, inSlot, marker, short, unmute, -, -, drive⟩ := h
  exact ⟨sub, index, inSlot, marker, short, unmute, rfl, rfl, drive⟩

/-- A node outside RESET whose operating state agrees with its blocks. -/
def State.Awake (s : State) : Prop := s.ModesCore ∧ s.ctl.mode ≠ .reset

theorem State.Awake.of_eq (h : s.Awake) (e : u.modeView = s.modeView) : u.Awake :=
  ⟨h.1.of_eq e fun reset => absurd reset h.2, by rw [show u.ctl = s.ctl from congrArg Prod.fst e]; exact h.2⟩

theorem State.Awake.writeWord (h : s.Awake) (a : Nat) (w : Word) : (s.writeWord a w).Awake := by
  unfold State.writeWord
  split
  · unfold State.writeRegister
    split
    case h_3 => exact ⟨h.1.withLane (·.writeWatch w) rfl, h.2⟩
    all_goals exact h.of_eq rfl
  case h_4 | h_5 => exact h.of_eq (by simp [State.modeView, Tables.writeEntry_rest])
  all_goals exact h.of_eq rfl

theorem State.Awake.hold (h : s.Awake) (f : FailedWord) : (s.hold f).Awake := by
  unfold State.hold
  dsimp only
  split
  case h_2 => exact ⟨h.1.withLane (fun rest => rest) rfl, h.2⟩
  case h_11 => split <;> exact h.of_eq rfl
  all_goals exact h.of_eq rfl

theorem applyWrite_awake (h : s.Awake) (r : Request) : (applyWrite r s).Awake := by
  unfold applyWrite
  split
  · exact h.of_eq rfl
  · exact State.writeFrom_keeps (fun _ a w hu => hu.writeWord a w) s _ _ h

theorem State.modeView_verdicts (m : Control × BitVec 8 × BitVec 6 × Phase × Option Commit × Lane) :
    State.VerdictKeeps (fun u => u.modeView = m) := by
  constructor <;> simp [State.modeView]

theorem State.ModesCore.of_view (h : s.ModesCore) (frames : s.ctl.mode.frames = true) (e : u.modeView = s.modeView) :
    u.ModesCore :=
  h.of_eq e fun reset => by simp [reset, Mode.frames] at frames

/-- Each order leads to a sound operating state, where it is legal (R58). -/
theorem Order.effect_core {o : Order} (h : u.ModesCore)
    (legal : (u.ctl.mode = .setup ∧ o ≠ .stopRun ∧ (o = .startRun → u.ident.named = true)) ∨
      (u.ctl.mode = .run ∧ o.needsSetup = false))
    (tested : o = .startRun → u.ctl.testPassed = true) : (o.effect r u).ModesCore := by
  have awake : u.ctl.mode ≠ .reset := by rcases legal with ⟨m, -⟩ | ⟨m, -⟩ <;> simp [m]
  have free := h.free awake
  have idle : u.ste.phase = .idle := h.idle (by rcases legal with ⟨m, -⟩ | ⟨m, -⟩ <;> simp [m])
  have setup (needs : o.needsSetup = true) : u.ctl.mode = .setup := by
    rcases legal with ⟨m, -⟩ | ⟨-, no⟩
    · exact m
    · simp [needs] at no
  have rest (m : u.ctl.mode = .setup) := h.atRest (by simp [m])
  cases o with
  | startRun =>
    have named : u.ident.named = true := by
      rcases legal with ⟨-, -, named⟩ | ⟨-, no⟩
      · exact named rfl
      · simp [Order.needsSetup] at no
    exact .awake (fun e => nomatch e) free (by simp [Order.effect, applyStartRun, idle]) (fun e => absurd rfl e)
      fun _ => ⟨named, tested rfl, fun e => nomatch e⟩
  | stopRun =>
    have run : u.ctl.mode = .run := by
      rcases legal with ⟨-, no, -⟩ | ⟨m, -⟩
      · exact absurd rfl no
      · exact m
    have pending (k : StopKind) : ({ u with ctl := { u.ctl with stop := some k } } : State).ModesCore :=
      .awake awake free h.testing (fun e => absurd run e) h.running
    have left := h.leaveRun run
    simp only [Order.effect, applyStopRun, State.stopNow, State.stopAtFrame]
    split_ifs
    exacts [h, pending _, left, h, left, pending _]
  | enterQuiet =>
    have m := setup rfl
    simp only [Order.effect, applyEnterQuiet]
    split
    · exact .awake (fun e => nomatch e) free (by simp [idle]) (fun _ => rest m) fun e => nomatch e
    · exact h
  | softReset =>
    simp only [Order.effect, applySoftReset]
    split
    · refine (State.ModesCore.beginReset ?_ fun _ => h.unnamed).core
      simp [State.resetHeld, Control.reset, ResetCause.isSoft]
    · exact h
  | runSelftest =>
    obtain ⟨lane, stop, commit⟩ := rest (setup rfl)
    exact .awake (fun e => nomatch e) free (by simp [Order.effect, applyRunSelftest, SelfTest.begin])
      (fun _ => ⟨(Lane.atRest_leave _).clearFaults, stop, commit⟩) fun e => nomatch e
  | commit =>
    simp only [Order.effect, applyCommit]
    split
    · rename_i run
      have pending (c : Commit) : ({ u with sct := { u.sct with commit := some c } } : State).ModesCore :=
        .awake awake free h.testing (fun e => absurd run e) h.running
      simp only [State.holdCommit]
      split
      · exact (pending _).of_eq rfl fun reset => absurd reset awake
      · exact pending _
    · rename_i run
      obtain ⟨lane, stop, -⟩ := h.atRest run
      exact .awake awake free h.testing (fun _ => ⟨lane, stop, rfl⟩) fun e => absurd e run
  | discardStaged =>
    exact .awake awake free h.testing (fun m => ⟨(h.atRest m).1, (h.atRest m).2.1, rfl⟩) h.running
  | clearMute =>
    refine .awake awake free h.testing (fun m => ?_) h.running
    obtain ⟨⟨sub, index, inSlot, marker, short, unmute, count, expired, drive⟩, stop, commit⟩ := h.atRest m
    refine ⟨⟨sub, index, inSlot, marker, short, ?_, count, expired, drive⟩, stop, commit⟩
    have off : decide (u.ctl.mode = .run) = false := decide_eq_false m
    change (u.lane.unmute || (decide (u.ctl.mode = .run) && u.lane.muted)) = false
    rw [unmute, off]
    rfl
  | logReset => exact h.of_eq rfl fun reset => absurd reset awake

/-- What a request does to the node leads to a sound operating state. -/
theorem effectOf_core {c : Instr} (serves : rowServes c r.hdr) (passes : s.laterSteps r = none) (h : s.ModesCore)
    (frames : s.ctl.mode.frames = true) (e : u.modeView = s.modeView) : (effectOf c r u).ModesCore := by
  have core := h.of_view frames e
  have ctl : u.ctl = s.ctl := congrArg Prod.fst e
  have nodeId : u.ident.nodeId = s.ident.nodeId := congrArg (fun v => v.2.2.1) e
  have awake : u.ctl.mode ≠ .reset := by
    rw [ctl]
    exact fun reset => by simp [reset, Mode.frames] at frames
  rcases effectOf_cases serves with ⟨-, e⟩ | ⟨command, e⟩ | ⟨-, e⟩ | ⟨o, order, e⟩ | ⟨-, e⟩ <;> rw [e]
  · exact (applyWrite_awake ⟨core, awake⟩ r).1
  · have mode : u.ctl.mode = .setup := ctl ▸ State.setId_legal passes command
    exact .awake awake (core.free awake) core.testing core.atRest fun run => nomatch mode.symm.trans run
  · refine core.of_eq ?_ fun reset => absurd reset awake
    unfold applyDrain
    split <;> rfl
  · refine Order.effect_core core ?_ ?_
    · simpa [ctl, Ident.named, nodeId] using State.order_legal passes order
    · rintro rfl
      rw [ctl]
      exact State.testPassed_of_passes passes order
  · exact core

/-- An addressed order that is executed leaves the node in a state that frames requests. -/
theorem Order.effect_frames (o : Order) (addressed : r.hdr.addressing ≠ .broadcast) (frames : u.ctl.mode.frames = true) :
    (o.effect r u).ctl.mode.frames = true := by
  cases o with
  | startRun | runSelftest => rfl
  | stopRun =>
    simp only [Order.effect, applyStopRun, State.stopNow, State.stopAtFrame]
    split_ifs <;> first | exact frames | simp [Mode.frames]
  | enterQuiet => simpa [Order.effect, applyEnterQuiet, addressed] using frames
  | softReset => simpa [Order.effect, applySoftReset, addressed] using frames
  | commit =>
    simp only [Order.effect, applyCommit, State.holdCommit]
    split_ifs <;> exact frames
  | discardStaged | clearMute | logReset => exact frames

@[simp] theorem State.writeWord_ctl (s : State) (a : Nat) (w : Word) : (s.writeWord a w).ctl = s.ctl := by
  unfold State.writeWord
  split
  · unfold State.writeRegister
    split <;> rfl
  all_goals rfl

@[simp] theorem State.writeWord_rx (s : State) (a : Nat) (w : Word) : (s.writeWord a w).link.rx = s.link.rx := by
  unfold State.writeWord
  split
  · unfold State.writeRegister
    split <;> rfl
  all_goals rfl

@[simp] theorem applyWrite_ctl (r : Request) (s : State) : (applyWrite r s).ctl = s.ctl := by
  unfold applyWrite
  split
  · rfl
  · exact State.writeFrom_keeps (P := fun u => u.ctl = s.ctl) (by simp) s _ _ rfl

@[simp] theorem applyDrain_ctl (r : Request) (s : State) : (applyDrain r s).ctl = s.ctl := by
  unfold applyDrain
  split <;> rfl

theorem effectOf_frames {c : Instr} (serves : rowServes c r.hdr) (addressed : r.hdr.addressing ≠ .broadcast)
    (frames : u.ctl.mode.frames = true) : (effectOf c r u).ctl.mode.frames = true := by
  rcases effectOf_cases serves with ⟨-, e⟩ | ⟨-, e⟩ | ⟨-, e⟩ | ⟨o, -, e⟩ | ⟨-, e⟩ <;> rw [e]
  · simpa using frames
  · exact frames
  · simpa using frames
  · exact o.effect_frames addressed frames
  · exact frames

/-- An addressed ENTER_QUIET or SOFT_RESET does nothing until the end of its reply (R48, R51). -/
theorem effectOf_of_ending {c : Instr} (serves : rowServes c r.hdr) (addressed : r.hdr.addressing ≠ .broadcast)
    (ending : r.hdr.order = some .enterQuiet ∨ r.hdr.order = some .softReset) : effectOf c r u = u := by
  have carried {o : Order} (order : r.hdr.order = some o) : effectOf c r = o.effect r := by
    have command : r.hdr.command = .order := ((r.hdr.order_eq_some_iff o).1 order).1
    rcases effectOf_cases serves with ⟨c, -⟩ | ⟨c, -⟩ | ⟨c, -⟩ | ⟨o', order', e⟩ | ⟨none, -⟩
    · simp [command] at c
    · simp [command] at c
    · simp [command] at c
    · obtain rfl := Option.some.inj (order'.symm.trans order)
      exact e
    · simp [order] at none
  rcases ending with order | order <;> rw [carried order]
  · simp [Order.effect, applyEnterQuiet, addressed]
  · simp [Order.effect, applySoftReset, addressed]

/-- No row of a broadcast takes the link interface out of LISTEN. -/
theorem effects_keep_listen : State.EffectsKeep (fun u => u.link.rx = .listen) where
  write r u h := by
    unfold applyWrite
    split
    · exact h
    · exact State.writeFrom_keeps (P := fun u => u.link.rx = .listen) (fun _ _ _ e => by simpa using e) u _ _ h
  setId _ _ h := h
  drain r u h := by unfold applyDrain; split <;> exact h
  startRun _ _ h := h
  stopRun r u h := by
    simp only [applyStopRun, State.stopNow, State.stopAtFrame]
    split_ifs <;> first | exact h | simpa using h
  enterQuiet r u h := by unfold applyEnterQuiet; split <;> first | exact h | rfl
  softReset r u h := by unfold applySoftReset; split <;> first | exact h | rfl
  runSelftest _ _ h := h
  commit r u h := by
    simp only [applyCommit, State.holdCommit]
    split_ifs <;> exact h
  discardStaged _ _ h := h
  clearMute _ _ h := h
  logReset _ _ h := h

theorem State.settleBroadcast_listen {apply : State → State} (h : ∀ u, u.link.rx = .listen → (apply u).link.rx = .listen)
    (hs : s.link.rx = .listen) : (s.settleBroadcast apply r).link.rx = .listen := by
  unfold State.settleBroadcast
  split_ifs
  · simpa using hs
  · exact hs
  · simpa using hs
  · simpa using hs
  · split
    · exact h _ (by simpa using hs)
    all_goals simpa using hs

theorem Header.afterOf_cases (h : Header) (v : Verdict) :
    h.afterOf v = .nothing ∨ (v = .accept ∧ h.order = some .enterQuiet ∧ h.afterOf v = .enterQuiet) ∨
      (v = .accept ∧ h.order = some .softReset ∧ h.afterOf v = .softReset) := by
  unfold Header.afterOf
  split_ifs with notAccepted quiet soft
  · exact .inl rfl
  · exact .inr (.inl ⟨not_not.1 notAccepted, quiet, rfl⟩)
  · exact .inr (.inr ⟨not_not.1 notAccepted, soft, rfl⟩)
  · exact .inl rfl

/-- A judged request leaves the operating state in agreement with every block. -/
theorem State.judge_modes {c : Instr} (h : s.ModesCore) (frames : s.ctl.mode.frames = true) (serves : rowServes c r.hdr) :
    (s.judge (effectOf c r) r).ModesConsistent := by
  have verdicts := State.modeView_verdicts s.modeView
  by_cases cast : r.hdr.addressing = .broadcast
  · rw [State.judge_broadcast cast]
    refine State.ModesCore.listen ?_ (State.settleBroadcast_listen (effects_keep_listen.effectOf c r) rfl)
    exact State.settleBroadcast_leads (P := fun u => u.modeView = s.modeView) verdicts (fun u => h.of_view frames)
      (fun passes u e => effectOf_core serves (s := s) passes h frames e) rfl
  · rw [State.judge_addressed cast, State.judgeAddressed]
    have settled : (s.settle (effectOf c r) r (s.verdict r)).ModesCore ∧
        (s.settle (effectOf c r) r (s.verdict r)).ctl.mode.frames = true := by
      refine State.settle_leads (Q := fun u => u.ModesCore ∧ u.ctl.mode.frames = true) verdicts ?_ (fun u e => ?_)
        (fun passes u e => ?_) rfl
      · rintro u ⟨core, framed⟩
        exact ⟨core.of_eq (by simp [State.modeView]) fun reset => by simp [reset, Mode.frames] at framed,
          by simpa using framed⟩
      · exact ⟨h.of_view frames e, by rw [show u.ctl = s.ctl from congrArg Prod.fst e]; exact frames⟩
      · exact ⟨effectOf_core serves passes h frames e,
          effectOf_frames serves cast (by rw [show u.ctl = s.ctl from congrArg Prod.fst e]; exact frames)⟩
    obtain ⟨core, framed⟩ := settled
    refine State.modesConsistent_iff _ |>.2 ⟨core.of_eq rfl fun _ empty => empty, fun m => ?_, ?_⟩
    · rcases m with m | m <;> simp [show (s.settle (effectOf c r) r (s.verdict r)).ctl.mode = _ from m, Mode.frames] at framed
    · have ctl (passes : s.verdict r = .accept)
          (ending : r.hdr.order = some .enterQuiet ∨ r.hdr.order = some .softReset) :
          (s.settle (effectOf c r) r (s.verdict r)).ctl = s.ctl := by
        rw [passes, State.settle, effectOf_of_ending serves cast ending]
        simp
      rcases r.hdr.afterOf_cases (s.verdict r) with after | ⟨passes, order, after⟩ | ⟨passes, order, after⟩
      · simp [State.EndingLegal, RxState.reply?, State.replyFor, after]
      · have legal := State.order_legal (State.laterSteps_of_accept passes) order
        simpa [State.EndingLegal, RxState.reply?, State.replyFor, after, ctl passes (.inl order), Order.needsSetup]
          using legal
      · have legal := State.order_legal (State.laterSteps_of_accept passes) order
        simpa [State.EndingLegal, RxState.reply?, State.replyFor, after, ctl passes (.inr order), Order.needsSetup]
          using legal

end

end Sys2Proof.Machine
end

section
/-! SUPPORT. The operating state through every act (O7). -/

namespace Sys2Proof.Machine

set_option Elab.async false

open Sys2Proof (Instr LinkUnit Bank Word)

section
variable {s t : State}

/-! ## The node's own events, and units -/

theorem State.ModesConsistent.withLane {l : Lane} (h : s.ModesConsistent) (rest : s.lane.AtRest → l.AtRest)
    (sub : l.sub = s.lane.sub) : ({ s with lane := l } : State).ModesConsistent :=
  State.modesConsistent_iff _ |>.2 ⟨h.core.withLane rest sub, h.listening, h.ending⟩

/-- A change of the lane sequencer in RUN. -/
theorem State.ModesConsistent.walking (h : s.ModesConsistent) (run : s.ctl.mode = .run)
    (e : (t.ctl, t.link, t.ident, t.ste) = (s.ctl, s.link, s.ident, s.ste)) (sub : t.lane.sub ≠ .none) :
    t.ModesConsistent := by
  simp only [Prod.mk.injEq] at e
  obtain ⟨ctl, link, ident, ste⟩ := e
  have awake : s.ctl.mode ≠ .reset := by simp [run]
  refine t.modesConsistent_iff.2 ⟨.awake (ctl ▸ awake) ?_ ?_ (fun m => absurd (ctl ▸ run) m) fun _ => ?_, ?_, ?_⟩
  · simpa [State.resetHeld, ctl, link] using h.core.free awake
  · rw [ste, ctl]; exact h.testing
  · rw [ident, ctl]; exact ⟨(h.running run).1, (h.running run).2.1, sub⟩
  · rw [State.Listening, ctl, link]; exact h.listening
  · rw [State.EndingLegal, ctl, link]; exact h.ending

theorem State.endingLegal_iff (s : State) :
    s.EndingLegal ↔ ∀ r n, s.link.rx.reply? = some (r, n) →
      (r.after = .enterQuiet → s.ctl.mode = .setup) ∧ (r.after = .softReset → s.ctl.mode = .setup ∨ s.ctl.mode = .run) := by
  unfold State.EndingLegal
  cases reply : s.link.rx.reply? with
  | none => simp
  | some p =>
    obtain ⟨r, n⟩ := p
    cases after : r.after <;> simp [after]

/-- SETUP is a state in which every reply may be owed. -/
theorem State.ModesCore.setup (core : t.ModesCore) (mode : t.ctl.mode = .setup) : t.ModesConsistent := by
  refine t.modesConsistent_iff.2 ⟨core, fun m => by simp [mode] at m, ?_⟩
  exact t.endingLegal_iff.2 fun _ _ _ => ⟨fun _ => mode, fun _ => .inl mode⟩

/-- A node that has left RUN by a stop. -/
theorem State.ModesConsistent.leaveRun (h : s.ModesConsistent) (run : s.ctl.mode = .run) : s.leaveRun.ModesConsistent :=
  (h.core.leaveRun run).setup (by simp)

theorem State.HeldEmpty.writerStep (reset : s.ctl.mode = .reset) (h : s.HeldEmpty) : s.writerStep.HeldEmpty := by
  rcases s.writerStep_cases with ⟨-, e⟩ | ⟨o, rest, -, awake, -⟩
  · rw [e]
    exact h
  · exact absurd reset awake

theorem State.ModesConsistent.completeOpen (h : s.ModesConsistent) (b : Bank) : (s.completeOpen b).ModesConsistent := by
  refine h.of_eq (by simp [State.modeView]) (by simp) fun reset empty => ?_
  obtain ⟨-, -, -, bank0, bank1⟩ := empty
  rcases s.completeOpen_cases b with ⟨q, opening, -⟩ | ⟨-, e⟩
  · cases b <;> simp [Store.bank, bank0, bank1] at opening
  · rw [e]
    exact h.empty reset

theorem State.ModesConsistent.expireWatch (h : s.ModesConsistent) : s.expireWatch.ModesConsistent := by
  rcases s.expireWatch_cases with ⟨runs, -, e⟩ | ⟨-, e⟩ <;> rw [e]
  · have run : s.ctl.mode = .run := by
      by_contra m
      simp [State.watchRuns, m] at runs
    exact h.walking run rfl (h.running run).2.2
  · exact h

/-- A link unit counts. -/
theorem State.ModesConsistent.endUnit (h : s.ModesConsistent) (m : Moment) : (s.endUnit m).ModesConsistent := by
  have held : (s.endUnit m).resetHeld = s.resetHeld := by
    have softStep : (s.endUnit m).ctl.softStep.isSome = s.ctl.softStep.isSome := by
      simp only [State.endUnit_ctl, State.countUnit_ctl, Control.countUnit]
      split <;> simp
    unfold State.resetHeld
    rw [softStep]
    rfl
  have phase : (s.endUnit m).ste.phase = s.ste.phase := rfl
  have lane (still : s.ctl.mode ≠ .run) : (s.endUnit m).lane = s.lane := by simp [still]
  have sub : (s.endUnit m).lane.sub = s.lane.sub := by
    simp only [State.endUnit_lane, State.countUnit_lane]
    split <;> rfl
  refine State.modesConsistent_iff _ |>.2 ⟨⟨?_, h.unnamed, fun reset => ?_, h.testing, fun still => ?_, fun run => ?_⟩,
    h.listening, h.ending⟩
  · rw [held]
    exact h.held
  · obtain ⟨queue, lost, append, bank0, bank1⟩ := h.empty reset
    refine ⟨queue, lost, append, ?_, ?_⟩ <;> simp [Store.countUnit, bank0, bank1, PageState.countUnit]
  · rw [lane still]
    exact h.atRest still
  · rw [sub]
    exact h.running run

/-- A phase of the self-test ends (R151). -/
theorem State.ModesConsistent.endPhase (h : s.ModesConsistent) (runs : s.ste.phase ≠ .idle) (failed : List FailedWord) :
    (s.endPhase failed).ModesConsistent := by
  have mode := h.testing.1 runs
  have awake : s.ctl.mode ≠ .reset := by simp [mode]
  have free := h.core.free awake
  have rest := h.atRest (by simp [mode])
  have noEnd : s.EndingLegal := h.ending
  have on (t : State) (core : t.ModesCore) (ctl : t.ctl = s.ctl) (rx : t.link.rx = s.link.rx) : t.ModesConsistent :=
    t.modesConsistent_iff.2 ⟨core, by rw [State.Listening, ctl, rx]; exact h.listening,
      by rw [State.EndingLegal, ctl, rx]; exact noEnd⟩
  have next (bad : List FailedWord) (goes : s.ste.phase.following ≠ .idle) :
      ({ s with ste := s.ste.endPhase bad } : State).Awake :=
    ⟨.awake awake free ⟨fun _ => mode, fun _ => goes⟩ (fun _ => rest) fun run => by simp [mode] at run, awake⟩
  unfold State.endPhase
  generalize failed.filter _ = bad
  cases p : s.ste.phase with
  | idle => exact absurd p runs
  | s1 =>
    have go := next bad (by simp [p, Phase.following])
    obtain ⟨core, -⟩ := State.foldl_hold_keeps (P := State.Awake) (fun _ f hu => hu.hold f) _ bad go
    exact on _ core (State.foldl_hold_link_ctl ..).2.2 (State.foldl_hold_link_ctl ..).2.1
  | s2 =>
    have go := (next bad (by simp [p, Phase.following])).1
    exact on _ (.awake awake free go.testing (fun _ => ⟨rest.1, rest.2.1, rfl⟩) go.running) rfl rfl
  | s3 | s4 | s5 =>
    have go := (next bad (by simp [p, Phase.following])).1
    exact on _ (go.of_eq rfl fun reset => absurd reset awake) rfl rfl
  | s6 =>
    refine State.ModesCore.setup (.awake (fun e => nomatch e) free ?_ (fun _ => rest) (fun e => nomatch e)) rfl
    simp [State.phaseEffect, State.completeTest, SelfTest.endPhase, p, Phase.following]

/-! ## Replies, runs, reset causes -/

/-- The receive state moves on (R3, R13). -/
theorem State.ModesConsistent.advance (h : s.ModesConsistent) : (s.withRx s.link.rx.next).ModesConsistent := by
  refine State.modesConsistent_iff _ |>.2 ⟨h.core.of_eq rfl fun _ empty => empty, fun m => ?_, ?_⟩
  · simp [h.listening m, RxState.next]
  · have legal := s.endingLegal_iff.1 h.ending
    refine State.endingLegal_iff _ |>.2 fun r n reply => ?_
    have owed : ∃ n, s.link.rx.reply? = some (r, n) := by
      revert reply
      change s.link.rx.next.reply? = _ → _
      cases s.link.rx <;> simp only [RxState.next] <;> (try split_ifs) <;> simp +contextual [RxState.reply?]
    obtain ⟨n, owed⟩ := owed
    exact legal r n owed

/-- A reply ends, and what it brings happens (R48, R51). -/
theorem State.ModesConsistent.endReply (h : s.ModesConsistent) {r : Reply} {n : Nat} (reply : s.link.rx.reply? = some (r, n)) :
    (s.endReply r).ModesConsistent := by
  have core : (s.withRx .listen).ModesCore := h.core.of_eq rfl fun _ empty => empty
  have ending := h.ending
  simp only [State.EndingLegal, reply] at ending
  rcases s.endReply_cases r with ⟨-, e⟩ | ⟨after, e⟩ | ⟨after, e⟩ <;> rw [e]
  · exact core.listen rfl
  · simp only [after] at ending
    have awake : s.ctl.mode ≠ .reset := by simp [ending]
    refine State.ModesCore.listen (.awake (fun e => nomatch e) (h.core.free awake) ?_
      (fun _ => h.atRest (by simp [ending])) (fun e => nomatch e)) rfl
    simp [h.core.idle (by simp [ending])]
  · exact State.ModesCore.beginReset (by simp [State.resetHeld, Control.reset, ResetCause.isSoft]) fun _ => h.unnamed

/-- A BEACON counts; the 64th of a run begins a link reset (R54, R55). -/
theorem State.ModesConsistent.countBeacon (h : s.ModesConsistent) : s.countBeacon.ModesConsistent := by
  rcases s.countBeacon_cases with ⟨last, e⟩ | ⟨other, e⟩ <;> rw [e]
  · exact State.ModesCore.beginReset (by simp [State.resetHeld, Link.reset, last, satInc]) (fun e => nomatch e)
  · have long : 64 ≤ (satInc s.link.beacons).toNat ↔ 64 ≤ s.link.beacons.toNat := by
      generalize s.link.beacons = b at other
      revert b
      decide
    have held := h.held
    have unnamed := h.unnamed
    refine State.modesConsistent_iff _ |>.2 ⟨⟨?_, ?_, h.empty, h.testing, h.atRest, h.running⟩, h.listening, h.ending⟩
    · simpa [State.resetHeld, long] using held
    · simpa [long] using unnamed

/-- A reset cause ends, and with the last one RESET (R44). -/
theorem State.ModesConsistent.causeEnds (h : s.ModesConsistent) (reset : s.ctl.mode = .reset) {beacons : BitVec 8}
    {low : Bool} {step : Option Nat} (unnamed : low = true ∨ 64 ≤ beacons.toNat → s.ident.nodeId = 0) (mid : BitVec 4) :
    ({ s with
      link := { s.link with beacons := beacons }
      ctl := { s.ctl with rstnLow := low, softStep := step } }.tryLeaveReset mid).ModesConsistent := by
  have rx := h.listening (.inl reset)
  have rest := h.atRest (by simp [reset])
  rcases State.tryLeaveReset_cases { s with
      link := { s.link with beacons := beacons }
      ctl := { s.ctl with rstnLow := low, softStep := step } } mid with ⟨-, free, e⟩ | ⟨held, e⟩ <;> rw [e]
  · refine State.ModesCore.listen (.awake (fun e => nomatch e) free ?_ (fun _ => rest) (fun e => nomatch e)) rx
    simp [State.testBegun]
  · have held := held.resolve_left (fun awake => awake reset)
    exact State.ModesCore.listen
      ⟨⟨fun _ => held, fun _ => reset⟩, unnamed, h.empty, h.testing, fun _ => rest, fun run => nomatch reset.symm.trans run⟩ rx

/-- Reset causes end with a unit (R44, R55, R163). -/
theorem State.ModesConsistent.endCauses (h : s.ModesConsistent) (u : LinkUnit) (mid : BitVec 4) :
    (s.endCauses u mid).ModesConsistent := by
  rcases s.endCauses_cases u mid with ⟨cause, e⟩ | ⟨-, -, e⟩ <;> rw [e]
  · have reset : s.ctl.mode = .reset := by
      refine h.held.2 ?_
      rcases cause with ⟨-, long⟩ | step
      · simp [State.resetHeld, long]
      · simp [State.resetHeld, step]
    refine (State.ModesConsistent.of_eq (s := State.tryLeaveReset _ mid) ?_ rfl rfl fun _ empty => empty)
    refine h.causeEnds (low := s.ctl.rstnLow) reset (fun held => h.unnamed (held.imp_right fun long => ?_)) mid
    split at long
    · simp at long
    · exact long
  · exact h

/-- A run of fewer than 64 units ends (R50, R54). -/
theorem State.ModesConsistent.endRun (h : s.ModesConsistent) (short : s.link.beacons.toNat < 64) : s.endRun.ModesConsistent := by
  have core : ({ s with link := { s.link with beacons := 0 } }.atPlace 20).ModesCore := by
    have held := h.held
    have unnamed := h.unnamed
    have not : ¬64 ≤ s.link.beacons.toNat := by omega
    refine ⟨?_, ?_, h.empty, h.testing, h.atRest, h.running⟩
    · simpa [State.resetHeld, not] using held
    · simpa [not] using unnamed
  have ended : ({ s with link := { s.link with beacons := 0 } }.atPlace 20).ModesConsistent :=
    State.modesConsistent_iff _ |>.2 ⟨core, h.listening, h.ending⟩
  rcases s.endRun_cases with ⟨quiet, -, -, e⟩ | ⟨-, -, e⟩ | e <;> rw [e]
  · have awake : s.ctl.mode ≠ .reset := by simp [quiet]
    refine State.ModesCore.setup (.awake (fun e => nomatch e) (core.free awake) ?_
      (fun _ => h.atRest (by simp [quiet])) (fun e => nomatch e)) rfl
    simp [h.core.idle (by simp [quiet])]
  · exact ended.raise _ _
  · exact ended

/-- RSTN goes high (R44). -/
theorem State.ModesConsistent.pinRelease (h : s.ModesConsistent) (mid : BitVec 4) : (s.pinRelease mid).ModesConsistent := by
  unfold State.pinRelease
  split
  · rename_i low
    have reset : s.ctl.mode = .reset := h.held.2 (by simp [State.resetHeld, low])
    exact h.causeEnds (beacons := s.link.beacons) (step := s.ctl.softStep) reset
      (fun _ => h.unnamed (.inl low)) mid
  · exact h

/-! ## Feeds and the lane -/

theorem State.ModesConsistent.takeMessage (h : s.ModesConsistent) (feed : BitVec 2) (bits : BitVec 25) :
    (s.takeMessage feed bits).ModesConsistent := by
  refine h.of_eq (by simp [State.modeView]) (by simp) fun reset empty => ?_
  rw [State.takeMessage_of_ignored]
  · exact empty
  · simp [State.considers, reset]

theorem Lane.fail_sub (l : Lane) (k : LaneFault) (b i : Nat) : (l.fail k b i).sub = l.sub := by
  unfold Lane.fail
  dsimp only
  split <;> rfl

/-- What a marker records and judges first, in RUN. -/
theorem State.ModesConsistent.recordMarker (h : s.ModesConsistent) (run : s.ctl.mode = .run) (n : BitVec 16) :
    (s.recordMarker n).completeness.ModesConsistent := by
  have recorded : (s.recordMarker n).lane.sub = s.lane.sub := by
    unfold State.recordMarker
    dsimp only
    split <;> rfl
  refine h.walking run ?_ ?_
  · simp [State.recordMarker, State.completeness, apply_ite State.ctl, apply_ite State.link, apply_ite State.ident,
      apply_ite State.ste]
  · have judged : (s.recordMarker n).completeness.lane.sub = s.lane.sub := by
      unfold State.completeness
      split
      · rw [State.laneFault_lane, Lane.fail_sub, recorded]
      · exact recorded
    rw [judged]
    exact (h.running run).2.2

theorem State.ModesConsistent.takeMarker (h : s.ModesConsistent) (n : BitVec 16) : (s.takeMarker n).ModesConsistent := by
  unfold State.takeMarker
  split
  · exact h
  · rename_i run
    have run : s.ctl.mode = .run := not_not.1 run
    have marked := h.recordMarker run n
    have still : (s.recordMarker n).completeness.ctl = s.ctl := by
      simp [State.recordMarker, State.completeness, apply_ite State.ctl]
    split
    · exact h.leaveRun run
    dsimp only
    split
    · exact marked.leaveRun (by rw [still]; exact run)
    · refine marked.walking (by rw [still]; exact run) ?_ (fun e => nomatch e)
      unfold State.commitAtMarker
      split
      · split <;> rfl
      · rfl

/-- A tick that the table does not have leads to FRAME_DONE. -/
theorem State.ModesConsistent.extraTick (h : s.ModesConsistent) (run : s.ctl.mode = .run) :
    s.releaseSlot.extraTick.ModesConsistent := by
  refine h.walking run ?_ ?_
  · unfold State.extraTick State.laneFault
    dsimp only
    split_ifs <;> rfl
  · unfold State.extraTick
    dsimp only
    split
    · exact fun e => nomatch e
    · rw [State.laneFault_lane, Lane.fail_sub]
      exact fun e => nomatch e

/-- A tick that walks an entry stays in WALKING. -/
theorem State.ModesConsistent.walkEntry (h : s.ModesConsistent) (run : s.ctl.mode = .run) (ltag : BitVec 6) :
    (s.releaseSlot.walkEntry ltag).ModesConsistent := by
  refine h.walking run ?_ ?_
  · unfold State.walkEntry State.driveSlot State.loseSlot State.laneFault
    dsimp only
    split
    · split
      · split_ifs <;> rfl
      · rfl
    · rfl
  · have sub := (h.running run).2.2
    unfold State.walkEntry State.driveSlot State.loseSlot
    dsimp only
    split
    · split
      · simpa [Lane.walkOn, Lane.fail_sub, State.releaseSlot] using sub
      · exact sub
    · exact sub

theorem State.ModesConsistent.takeTick (h : s.ModesConsistent) (ltag : BitVec 6) : (s.takeTick ltag).ModesConsistent := by
  unfold State.takeTick
  split
  · exact h
  rename_i run
  have run : s.ctl.mode = .run := not_not.1 run
  split
  · exact h.leaveRun run
  split
  · exact h
  · exact h
  · split
    · exact h.walkEntry run ltag
    · exact h.extraTick run
  · exact h.extraTick run

/-! ## The statement -/

/-- Every act keeps the operating state in agreement with every block. -/
theorem State.Act.keeps_modes (act : s.Act t) (h : s.ModesConsistent) : t.ModesConsistent := by
  cases act with
  | now m | alert low | resync f | chi level => exact h.of_eq rfl rfl fun _ empty => empty
  | writerStep => exact h.of_eq (by simp [State.modeView]) (by simp) fun reset empty => empty.writerStep reset
  | completeOpen b => exact h.completeOpen b
  | expireWatch => exact h.expireWatch
  | endPhase failed =>
    rcases s.endPhaseIfDone_cases failed with ⟨runs, -, e⟩ | ⟨-, e⟩ <;> rw [e]
    · exact h.endPhase runs failed
    · exact h
  | judge c r frames serves size => exact State.judge_modes h.core frames serves
  | endUnit m => exact h.endUnit m
  | advance => exact h.advance
  | endReply r n reply => exact h.endReply reply
  | clash detail =>
    exact State.ModesConsistent.raise (s := { s with link := { s.link with clashes := satInc s.link.clashes } })
      (h.of_eq rfl rfl fun _ empty => empty) _ _
  | countBeacon => exact h.countBeacon
  | endCauses u mid => exact h.endCauses u mid
  | endRun short => exact h.endRun short
  | cutShort =>
    have core : s.cutShort.ModesCore := by
      rcases s.cutShort_cases with ⟨r, n, -, e⟩ | ⟨-, e⟩ <;> rw [e]
      · exact (h.raise _ _).core.of_eq rfl fun _ empty => empty
      · exact h.core.of_eq rfl fun _ empty => empty
    refine core.listen ?_
    rcases s.cutShort_cases with ⟨r, n, -, e⟩ | ⟨-, e⟩ <;> rw [e] <;> rfl
  | beginRequest =>
    unfold State.beginRequest
    split
    · rename_i frames
      exact State.ModesCore.framing (h.core.of_eq rfl fun _ empty => empty) frames rfl
    · exact h
  | judgeHeader o k header =>
    have frames := h.frames_of_rx (by simp [header])
    unfold State.judgeHeader
    split_ifs
    · exact State.ModesCore.listen ((h.raise _ _).core.of_eq rfl fun _ empty => empty) rfl
    · exact State.ModesCore.framing (h.core.of_eq rfl fun _ empty => empty) frames rfl
    · exact State.ModesCore.listen (h.core.of_eq rfl fun _ empty => empty) rfl
  | pinReset power =>
    exact State.ModesCore.beginReset (by simp [State.resetHeld, Control.reset]) fun e => nomatch e
  | pinRelease mid => exact h.pinRelease mid
  | takeMessage feed bits => exact h.takeMessage feed bits
  | takeMarker n => exact h.takeMarker n
  | takeTick ltag => exact h.takeTick ltag

end

/-- Settles O7: every act keeps the agreement. -/
theorem modesStayConsistent : Obligations.ModesStayConsistent := fun _ _ h step =>
  step_keeps (fun _ _ h => h.of_eq rfl rfl fun _ empty => empty) (fun _ _ act => act.keeps_modes) step h

end Sys2Proof.Machine
end

section
/-! SUPPORT. The tables in RUN, act by act (O8). -/

namespace Sys2Proof.Machine

set_option Elab.async false

open Sys2Proof (Instr LinkUnit Bank Word)

/-! ## What a validation looks at -/

theorem Capture.validateFrom_congr {c c' : Capture} (records : ∀ k, (c.channel k).record = (c'.channel k).record) (t : Table)
    (ofActive : Bool) (k n : Nat) : c.validateFrom t ofActive k n = c'.validateFrom t ofActive k n := by
  have failure (e : Word) : c.entryFailure e = c'.entryFailure e := by
    simp [Capture.entryFailure, Channel.enabled, records]
  induction n generalizing k with
  | zero => rfl
  | succ n ih => simp only [Capture.validateFrom, failure, ih]

/-- The outcome of a validation does not depend on the role it is recorded with. -/
theorem Capture.validateFrom_result (c : Capture) (t : Table) (b b' : Bool) (k n : Nat) :
    (c.validateFrom t b k n).result = (c.validateFrom t b' k n).result := by
  induction n generalizing k with
  | zero => rfl
  | succ n ih =>
    simp only [Capture.validateFrom]
    split
    · rfl
    · split
      · rfl
      · exact ih (k + 1)

/-- The tables by role and the channel records. -/
def State.tableView (s : State) : Table × Table × (Nat → Word) :=
  (s.sct.active, s.sct.staged, fun k => (s.cap.channel k).record)

section
variable {s t u : State} {r : Request}

theorem State.validate_of_view (e : t.tableView = s.tableView) (ofActive : Bool) : t.validate ofActive = s.validate ofActive := by
  simp only [State.tableView, Prod.mk.injEq] at e
  obtain ⟨active, staged, records⟩ := e
  unfold State.validate
  rw [active, staged]
  exact Capture.validateFrom_congr (congrFun records) ..

/-- The ACTIVE table after a swap is the one that was STAGED (R79). -/
theorem State.validate_swap (s : State) (l : Lane) :
    (State.validate { s with sct := s.sct.swap, lane := l } true).result = (s.validate false).result := by
  unfold State.validate
  rw [if_pos rfl, if_neg Bool.false_ne_true, s.sct.swap_roles.1]
  exact Capture.validateFrom_result ..

/-- The tables stay valid with what they are compared with. -/
theorem State.RunTablesValid.of_view (h : s.RunTablesValid) (run : t.ctl.mode = .run → s.ctl.mode = .run)
    (e : t.tableView = s.tableView) (slot : t.lane.slotIndex = s.lane.slotIndex)
    (commit : t.sct.commit.isSome = true → s.sct.commit.isSome = true) : t.RunTablesValid := by
  intro mode
  obtain ⟨valid, index, pending⟩ := h (run mode)
  have active : t.sct.active = s.sct.active := congrArg Prod.fst e
  rw [State.validate_of_view e, State.validate_of_view e, active, slot]
  exact ⟨valid, index, fun c => pending (commit c)⟩

theorem State.RunTablesValid.of_not_run (mode : t.ctl.mode ≠ .run) : t.RunTablesValid := fun run => absurd run mode

/-- A commit of a valid STAGED table is pending. -/
theorem State.RunTablesValid.held (h : s.RunTablesValid) (run : s.ctl.mode = .run)
    (valid : (s.validate false).result = .valid) (c : Commit) :
    ({ s with sct := { s.sct with commit := some c } } : State).RunTablesValid := by
  intro _
  obtain ⟨active, index, -⟩ := h run
  have same (ofActive : Bool) : (State.validate { s with sct := { s.sct with commit := some c } } ofActive).result =
      (s.validate ofActive).result := congrArg TableCheck.result (State.validate_of_view rfl ofActive)
  exact ⟨(same true).trans active, index, fun _ => (same false).trans valid⟩

/-! ## Writes in RUN -/

/-- A written word outside the ACTIVE window and the channel table, and outside the STAGED window while a commit is pending,
leaves the tables valid. -/
theorem State.RunTablesValid.writeWord (h : s.RunTablesValid) {a : Nat} (w : Word)
    (open' : regionOf a ≠ some .activeWindow ∧ regionOf a ≠ some .channelTable)
    (free : regionOf a = some .stagedWindow → s.sct.commit = none) :
    (s.writeWord a w).RunTablesValid ∧ (s.writeWord a w).sct.commit = s.sct.commit := by
  unfold State.writeWord
  split
  · unfold State.writeRegister
    split <;> exact ⟨h.of_view id rfl rfl id, rfl⟩
  · rename_i region
    exact absurd region open'.2
  · generalize a - 0x180 = c
    refine ⟨h.of_view id ?_ rfl id, rfl⟩
    have records (k : Nat) : ((s.updateChannel c (·.writeSuperseded w)).cap.channel k).record = (s.cap.channel k).record := by
      simp only [State.updateChannel, Capture.channel_setChannel]
      split
      · rename_i here
        rw [here.1]
        rfl
      · rfl
    exact Prod.ext rfl (Prod.ext rfl (funext records))
  · rename_i region
    exact absurd region open'.1
  · rename_i region
    have noCommit := free region
    generalize a - 0x300 = k
    refine ⟨fun run => ?_, (s.sct.writeEntry_rest false _ w).2.1⟩
    obtain ⟨valid, index, -⟩ := h run
    have active : (s.sct.writeEntry false k w).active = s.sct.active := (s.sct.writeEntry_roles _ w).2.2.1
    refine ⟨?_, ?_, fun pending => ?_⟩
    · simpa [State.validate, active] using valid
    · simpa [active] using index
    · rw [show (s.sct.writeEntry false k w).commit = none from
        (s.sct.writeEntry_rest false _ w).2.1.trans noCommit] at pending
      exact nomatch pending
  · exact ⟨h, rfl⟩

theorem State.RunTablesValid.writeFrom (h : s.RunTablesValid) {a : Nat} (ws : List Word)
    (open' : ∀ k < ws.length, regionOf (a + k) ≠ some .activeWindow ∧ regionOf (a + k) ≠ some .channelTable)
    (free : ∀ k < ws.length, regionOf (a + k) = some .stagedWindow → s.sct.commit = none) :
    (s.writeFrom a ws).RunTablesValid := by
  induction ws generalizing s a with
  | nil => exact h
  | cons w ws ih =>
    obtain ⟨one, commit⟩ := h.writeWord w (open' 0 (by simp)) (free 0 (by simp))
    refine ih one (fun k hk => ?_) fun k hk region => ?_
    · have := open' (k + 1) (by simpa using hk)
      rwa [show a + (k + 1) = a + 1 + k by omega] at this
    · rw [commit]
      refine free (k + 1) (by simpa using hk) ?_
      rwa [show a + (k + 1) = a + 1 + k by omega]

/-- A WRITE that passes covers no locked word (R85, R86, R69). -/
theorem State.unlocked_of_passes (passes : s.laterSteps r = none) (write : r.hdr.command = .write) (run : s.ctl.mode = .run) :
    regionOf r.hdr.address.toNat ≠ some .activeWindow ∧ regionOf r.hdr.address.toNat ≠ some .channelTable ∧
      (regionOf r.hdr.address.toNat = some .stagedWindow → s.sct.commit = none) := by
  simp only [State.laterSteps, Option.or_eq_none_iff] at passes
  obtain ⟨-, -, -, -, -, -, locked, -⟩ := passes
  unfold State.stepLocked at locked
  dsimp only at locked
  refine ⟨fun region => ?_, fun region => ?_, fun region => ?_⟩ <;> simp only [region, write, run] at locked
  · simp at locked
  · simp at locked
  · by_contra pending
    simp [Option.isSome_iff_ne_none.2 pending] at locked

/-- A READ or WRITE that passes lies in one region (R171). -/
theorem State.oneRegion_of_passes (passes : s.laterSteps r = none) (words : r.hdr.command.accessesWords = true) :
    r.hdr.inOneRegion = true := by
  simp only [State.laterSteps, Option.or_eq_none_iff] at passes
  obtain ⟨-, -, -, address, -⟩ := passes
  by_contra apart
  rw [Bool.not_eq_true] at apart
  simp [Header.stepAddress, words, apart] at address

/-! ## Requests -/

/-- The table that a COMMIT or START_RUN validates is valid when it passes (R46, R87). -/
theorem State.table_valid_of_passes {ofActive : Bool} (passes : s.laterSteps r = none)
    (validates : s.validates r.hdr = some ofActive) : (s.validate ofActive).result = .valid := by
  have precondition := State.stepPrecondition_of_passes passes
  rw [State.stepPrecondition_validated validates] at precondition
  by_contra invalid
  simp [invalid] at precondition

/-- Each order that passes leaves the tables valid in RUN. -/
theorem Order.effect_tables {o : Order} (modes : s.ModesConsistent) (passes : s.laterSteps r = none)
    (order : r.hdr.order = some o) (h : u.RunTablesValid) (ctl : u.ctl = s.ctl) (commit : u.sct.commit = s.sct.commit)
    (e : u.tableView = s.tableView) : (o.effect r u).RunTablesValid := by
  have legal := State.order_legal passes order
  rw [← ctl] at legal
  have run (free : o.needsSetup = true ∨ o = .stopRun) (m : u.ctl.mode = .run) : o = .stopRun := by
    rcases legal with ⟨setup, -⟩ | ⟨-, no⟩
    · exact nomatch setup.symm.trans m
    · exact free.resolve_left (by simp [no])
  cases o with
  | startRun =>
    have valid : (s.validate true).result = .valid := 
      State.table_valid_of_passes passes (by simp [State.validates, order, State.testPassed_of_passes passes order])
    have setup : u.ctl.mode ≠ .run := fun m => nomatch run (.inl rfl) m
    have noCommit : u.sct.commit = none := commit.trans (modes.atRest (ctl ▸ setup)).2.2
    refine fun _ => ⟨?_, Nat.zero_le _, fun pending => ?_⟩
    · rw [State.validate_of_view (show (Order.startRun.effect r u).tableView = s.tableView from e)]
      exact valid
    · rw [show (Order.startRun.effect r u).sct.commit = none from noCommit] at pending
      exact nomatch pending
  | stopRun =>
    have left : u.leaveRun.RunTablesValid := .of_not_run (by simp)
    simp only [Order.effect, applyStopRun, State.stopNow, State.stopAtFrame]
    split_ifs
    exacts [h, h.of_view id rfl rfl id, left, h, left, h.of_view id rfl rfl id]
  | enterQuiet =>
    simp only [Order.effect, applyEnterQuiet]
    split
    · exact .of_not_run fun m => nomatch m
    · exact h
  | softReset =>
    simp only [Order.effect, applySoftReset]
    split
    · exact .of_not_run fun m => nomatch m
    · exact h
  | runSelftest => exact .of_not_run fun m => nomatch m
  | commit =>
    have valid : (s.validate false).result = .valid := 
      State.table_valid_of_passes passes (by simp [State.validates, order])
    rw [← State.validate_of_view e] at valid
    simp only [Order.effect, applyCommit]
    split
    · rename_i m
      have held (c : Commit) : ({ u with sct := { u.sct with commit := some c } } : State).RunTablesValid :=
        h.held m valid c
      simp only [State.holdCommit]
      split
      · exact (held _).of_view id rfl rfl id
      · exact held _
    · exact .of_not_run ‹_›
  | discardStaged => exact h.of_view id rfl rfl fun pending => nomatch pending
  | clearMute => exact h.of_view id rfl rfl id
  | logReset => exact h.of_view id rfl rfl id

@[simp] theorem State.recordValidation_active (s : State) (h : Header) :
    (s.recordValidation h).sct.active = s.sct.active := by
  unfold State.recordValidation
  split <;> rfl

@[simp] theorem State.recordValidation_staged (s : State) (h : Header) :
    (s.recordValidation h).sct.staged = s.sct.staged := by
  unfold State.recordValidation
  split <;> rfl

/-- A judged request leaves the tables valid in RUN. -/
theorem State.RunTablesValid.judge {c : Instr} (modes : s.ModesConsistent) (h : s.RunTablesValid)
    (serves : rowServes c r.hdr) (size : r.words.length = r.hdr.blockWords) :
    (s.judge (effectOf c r) r).RunTablesValid := by
  have verdicts : State.VerdictKeeps (fun u =>
      u.ctl = s.ctl ∧ u.sct.commit = s.sct.commit ∧ u.lane = s.lane ∧ u.tableView = s.tableView) := by
    constructor <;> simp [State.tableView]
  refine State.judge_leads verdicts (fun u x hu => hu.of_view id rfl rfl id)
    (fun u hu => hu.of_view (by simp) (by simp [State.tableView]) (by simp) (by simp)) (fun u hu => ?_) (fun passes u hu => ?_)
    ⟨rfl, rfl, rfl, rfl⟩
  · obtain ⟨ctl, commit, lane, e⟩ := hu
    exact h.of_view (by simp [ctl]) e (by rw [lane]) (by simp [commit])
  · obtain ⟨ctl, commit, lane, same⟩ := hu
    have valid : u.RunTablesValid := h.of_view (by simp [ctl]) same (by rw [lane]) (by simp [commit])
    rcases effectOf_cases serves with ⟨write, e⟩ | ⟨-, e⟩ | ⟨-, e⟩ | ⟨o, order, e⟩ | ⟨-, e⟩ <;> rw [e]
    · by_cases run : s.ctl.mode = .run
      · obtain ⟨active, channels, staged⟩ := State.unlocked_of_passes passes write run
        have region := (r.hdr.inOneRegion_iff.1 (State.oneRegion_of_passes passes (by simp [write, Command.accessesWords]))).2
        have inside (k : Nat) (hk : k < r.words.length) :
            regionOf (r.hdr.address.toNat + k) = regionOf r.hdr.address.toNat := by
          refine region k (lt_of_lt_of_le hk ?_)
          rw [size, Header.blockWords]
          split <;> omega
        unfold applyWrite
        split
        · exact valid.of_view id rfl rfl id
        · refine valid.writeFrom _ (fun k hk => ?_) fun k hk => ?_
          · rw [inside k hk]
            exact ⟨active, channels⟩
          · rw [inside k hk, commit]
            exact staged
      · exact .of_not_run (by rw [applyWrite_ctl, ctl]; exact run)
    · exact valid.of_view id rfl rfl id
    · unfold applyDrain
      split
      · exact valid
      · exact valid.of_view id rfl rfl id
    · exact o.effect_tables modes passes order valid ctl commit same
    · exact valid

/-! ## Markers and ticks -/

theorem Lane.fail_slotIndex (l : Lane) (k : LaneFault) (b i : Nat) : (l.fail k b i).slotIndex = l.slotIndex := by
  unfold Lane.fail
  dsimp only
  split <;> rfl

/-- What a marker records and judges first leaves the tables alone. -/
theorem State.recordMarker_tables (s : State) (n : BitVec 16) :
    (s.recordMarker n).completeness.ctl = s.ctl ∧ (s.recordMarker n).completeness.sct = s.sct ∧
      (s.recordMarker n).completeness.tableView = s.tableView := by
  have recorded : (s.recordMarker n).ctl = s.ctl ∧ (s.recordMarker n).sct = s.sct ∧ (s.recordMarker n).cap = s.cap := by
    unfold State.recordMarker
    dsimp only
    split <;> exact ⟨rfl, rfl, rfl⟩
  obtain ⟨ctl, sct, cap⟩ := recorded
  unfold State.completeness
  split <;> simp [State.tableView, ctl, sct, cap]

/-- A due commit is carried out at a marker: the new ACTIVE table is the valid STAGED one (R89). -/
theorem State.RunTablesValid.takeMarker (h : s.RunTablesValid) (n : BitVec 16) : (s.takeMarker n).RunTablesValid := by
  unfold State.takeMarker
  split
  · exact h
  rename_i run
  have run : s.ctl.mode = .run := not_not.1 run
  split
  · exact .of_not_run (by simp)
  dsimp only
  split
  · exact .of_not_run (by simp)
  obtain ⟨ctl, sct, view⟩ := s.recordMarker_tables n
  generalize (s.recordMarker n).completeness = m at *
  obtain ⟨valid, -, pending⟩ := h run
  rw [← State.validate_of_view view] at valid
  have same : ({ m with lane := m.lane.beginFrame } : State).RunTablesValid := fun _ =>
    ⟨(congrArg TableCheck.result (State.validate_of_view (by rfl) true)).trans valid, Nat.zero_le _, fun c =>
      (congrArg TableCheck.result (State.validate_of_view (t := { m with lane := m.lane.beginFrame }) (s := s) view false)).trans
        (pending (sct ▸ c))⟩
  unfold State.commitAtMarker
  split
  · rename_i c commit
    split
    · have staged := pending (by rw [← sct, commit]; rfl)
      rw [← State.validate_of_view view] at staged
      refine fun _ => ⟨?_, Nat.zero_le _, fun c => nomatch c⟩
      exact (m.validate_swap m.lane.beginFrame).trans staged
    · exact same
  · exact same

/-- A tick that walks an entry leaves the tables alone (R101). -/
theorem State.walkEntry_tables (s : State) (ltag : BitVec 6) :
    (s.releaseSlot.walkEntry ltag).sct = s.sct ∧
      (s.releaseSlot.walkEntry ltag).lane.slotIndex = s.lane.slotIndex + 1 ∧
      (s.releaseSlot.walkEntry ltag).tableView = s.tableView := by
  unfold State.walkEntry State.driveSlot
  dsimp only
  split
  · split
    · refine ⟨by simp [State.loseSlot, State.releaseSlot], ?_, by simp [State.tableView, State.loseSlot, State.releaseSlot]⟩
      simp [State.loseSlot, Lane.walkOn, Lane.fail_slotIndex, State.releaseSlot]
    · refine ⟨rfl, rfl, ?_⟩
      have records (c k : Nat) : ((s.cap.place c).channel k).record = (s.cap.channel k).record := by
        unfold Capture.place
        split
        · rw [Capture.channel_setChannel]
          split
          · rename_i here
            rw [here.1]
            rfl
          · rfl
        · rfl
      exact Prod.ext rfl (Prod.ext rfl (funext (records _)))
  · exact ⟨rfl, rfl, rfl⟩

/-- A tick walks inside the table (R101). -/
theorem State.RunTablesValid.takeTick (h : s.RunTablesValid) (ltag : BitVec 6) : (s.takeTick ltag).RunTablesValid := by
  have extra : s.releaseSlot.extraTick.RunTablesValid := by
    unfold State.extraTick
    dsimp only
    split
    · exact h.of_view id rfl rfl id
    · refine h.of_view ?_ ?_ ?_ ?_
      · simp [State.releaseSlot]
      · simp [State.tableView, State.releaseSlot]
      · rw [State.laneFault_lane, Lane.fail_slotIndex]
        rfl
      · simp [State.releaseSlot]
  unfold State.takeTick
  split
  · exact h
  rename_i run
  split
  · exact .of_not_run (by simp)
  split
  · exact h
  · exact h
  · split
    · rename_i inside
      obtain ⟨sct, slot, view⟩ := s.walkEntry_tables ltag
      intro _
      obtain ⟨valid, -, pending⟩ := h (not_not.1 run)
      rw [State.validate_of_view view, State.validate_of_view view, slot, sct]
      exact ⟨valid, inside, pending⟩
    · exact extra
  · exact extra

/-! ## The statement -/

/-- The end of a phase leaves a node that is not in RUN (R158). -/
theorem State.endPhaseIfDone_not_run (modes : s.ModesConsistent) (failed : List FailedWord) (runs : s.ste.phase ≠ .idle) :
    (s.endPhaseIfDone failed).ctl.mode ≠ .run := by
  have mode := modes.testing.1 runs
  rcases s.endPhaseIfDone_mode_cases failed with e | ⟨-, -, e⟩ <;> rw [e]
  · rw [mode]
    exact fun m => nomatch m
  · exact fun m => nomatch m

/-- Leaving RESET leaves a node that is not in RUN. -/
theorem State.tryLeaveReset_not_run (reset : s.ctl.mode = .reset) (mid : BitVec 4) :
    (s.tryLeaveReset mid).ctl.mode ≠ .run := by
  rcases s.tryLeaveReset_cases mid with ⟨-, -, e⟩ | ⟨-, e⟩ <;> rw [e]
  · exact fun m => nomatch m
  · rw [reset]
    exact fun m => nomatch m

/-- A feed message leaves the channel records alone. -/
theorem State.takeMessage_record (s : State) (feed : BitVec 2) (bits : BitVec 25) (k : Nat) :
    ((s.takeMessage feed bits).cap.channel k).record = (s.cap.channel k).record := by
  have claimed (c : Nat) (value : BitVec 20) (high : Bool) :
      ((s.cap.setChannel c ((s.cap.channel c).claim value high)).channel k).record = (s.cap.channel k).record := by
    rw [Capture.channel_setChannel]
    split
    · rename_i here
      rw [here.1, Channel.claim]
      split <;> rfl
    · rfl
  unfold State.takeMessage
  split_ifs
  · rfl
  · rfl
  · rfl
  · unfold State.claimMessage
    dsimp only
    split
    · rw [State.offer_cap]
      exact claimed ..
    · exact claimed ..

/-- Every act keeps the tables valid in RUN. -/
theorem State.Act.keeps_tables (act : s.Act t) (modes : s.ModesConsistent) (h : s.RunTablesValid) : t.RunTablesValid := by
  have reset {x : State} (m : x.ctl.mode = .reset) : x.RunTablesValid := .of_not_run (by rw [m]; exact fun e => nomatch e)
  cases act with
  | now m | alert low | advance | clash detail | chi level => exact h.of_view id rfl rfl id
  | endUnit m =>
    refine h.of_view id rfl ?_ id
    simp only [State.endUnit_lane, State.countUnit_lane]
    split <;> rfl
  | resync f => exact h.of_view id rfl rfl id
  | expireWatch =>
    rcases s.expireWatch_cases with ⟨-, -, e⟩ | ⟨-, e⟩ <;> rw [e]
    · exact h.of_view id rfl rfl id
    · exact h
  | endPhase failed =>
    rcases s.endPhaseIfDone_cases failed with ⟨runs, -, -⟩ | ⟨-, e⟩
    · exact .of_not_run (State.endPhaseIfDone_not_run modes failed runs)
    · rwa [e]
  | judge c r frames serves size => exact h.judge modes serves size
  | endReply r n reply =>
    rcases s.endReply_cases r with ⟨-, e⟩ | ⟨-, e⟩ | ⟨-, e⟩ <;> rw [e]
    · exact h.of_view id rfl rfl id
    · exact .of_not_run fun m => nomatch m
    · exact reset rfl
  | countBeacon =>
    rcases s.countBeacon_cases with ⟨-, e⟩ | ⟨-, e⟩ <;> rw [e]
    · exact reset rfl
    · exact h.of_view id rfl rfl id
  | endCauses u mid =>
    rcases s.endCauses_cases u mid with ⟨cause, e⟩ | ⟨-, -, e⟩ <;> rw [e]
    · have mode : s.ctl.mode = .reset := by
        refine modes.held.2 ?_
        rcases cause with ⟨-, long⟩ | step
        · simp [State.resetHeld, long]
        · simp [State.resetHeld, step]
      refine .of_not_run ?_
      rw [State.atPlace_ctl]
      exact State.tryLeaveReset_not_run (by exact mode) mid
    · exact h
  | endRun short =>
    rcases s.endRun_cases with ⟨-, -, -, e⟩ | ⟨-, -, e⟩ | e <;> rw [e]
    · exact .of_not_run fun m => nomatch m
    · exact h.of_view id rfl rfl id
    · exact h.of_view id rfl rfl id
  | pinReset power => exact reset rfl
  | pinRelease mid =>
    unfold State.pinRelease
    split
    · rename_i low
      have mode : s.ctl.mode = .reset := modes.held.2 (by simp [State.resetHeld, low])
      exact .of_not_run (State.tryLeaveReset_not_run (by exact mode) mid)
    · exact h
  | takeMessage feed bits =>
    refine h.of_view (by simp) ?_ (by simp) (by simp)
    exact Prod.ext (by simp [State.tableView]) (Prod.ext (by simp [State.tableView]) (funext (s.takeMessage_record feed bits)))
  | takeMarker n => exact h.takeMarker n
  | takeTick ltag => exact h.takeTick ltag
  | writerStep | completeOpen b | cutShort | beginRequest | judgeHeader o k =>
    exact h.of_view (by simp) (by simp [State.tableView]) (by simp) (by simp)

end

/-- Settles O8: every act keeps the tables valid in a node whose operating state agrees with its blocks. -/
theorem runTablesStayValid : Obligations.RunTablesStayValid := fun _ _ modes h step =>
  (step_keeps (P := fun s => s.ModesConsistent ∧ s.RunTablesValid)
    (fun _ _ h => ⟨h.1.of_eq rfl rfl fun _ empty => empty, h.2.of_view id rfl rfl id⟩)
    (fun _ _ act h => ⟨act.keeps_modes h.1, act.keeps_tables h.1 h.2⟩) step ⟨modes, h⟩).2

end Sys2Proof.Machine
end

section
/-! SUPPORT. The ring of the log, act by act (O9). -/

namespace Sys2Proof.Machine

set_option Elab.async false

open Sys2Proof (Instr LinkUnit Bank Word)

/-! ## The ring -/

/-- What the ring of R123 is made of. -/
def Store.ringView (t : Store) : Word × Nat × Nat × Nat × Nat := (t.cfg, t.head, t.tail, t.count, t.inFlight)

section
variable {t t' : Store}

theorem Store.RingConsistent.of_view (h : t.RingConsistent) (e : t'.ringView = t.ringView) : t'.RingConsistent := by
  simp only [Store.ringView, Prod.mk.injEq] at e
  obtain ⟨cfg, head, tail, count, inFlight⟩ := e
  have capacity : t'.capacity = t.capacity := by
    simp [Store.capacity, Store.logPages, Store.heldFirst, Store.heldPages, Store.placesPerPage, Store.recordSize,
      Store.stamp, cfg]
  simpa [Store.RingConsistent, Store.placeAfter, capacity, head, tail, count, inFlight] using h

theorem Store.logOn_of_cfg (e : t'.cfg = t.cfg) : t'.logOn = t.logOn := by
  simp [Store.logOn, Store.logPages, Store.heldFirst, Store.heldPages, e]

/-- An emptied log is consistent, whatever its configuration (R138). -/
theorem Store.ringConsistent_of_empty (head : t.head = 0) (tail : t.tail = 0) (count : t.count = 0)
    (inFlight : t.inFlight = 0) : t.RingConsistent := by
  unfold Store.RingConsistent
  split
  · exact ⟨head, tail, count, inFlight⟩
  · rename_i on
    rw [head, tail, count, inFlight, Store.placeAfter, Nat.zero_mod]
    exact ⟨Nat.pos_of_ne_zero on, Nat.zero_le _, Nat.le_refl _, Nat.zero_le _, rfl⟩

/-- The ring of a log that is on. -/
theorem Store.ringConsistent_iff (on : t.logPages ≠ 0) :
    t.RingConsistent ↔ t.head < t.capacity ∧ t.count ≤ t.capacity ∧ t.inFlight ≤ t.count ∧ t.inFlight ≤ 31 ∧
      t.tail = (t.head + t.count) % t.capacity := by
  have := Store.capacity_pos on
  rw [Store.RingConsistent, if_neg (by omega), Store.placeAfter]

/-- A record written at the tail (R127, R128). -/
theorem Store.RingConsistent.writeRecord (h : t.RingConsistent) (o : Offer) (keeps : t.dropsAtWriter = false) :
    (t.writeRecord o).popQueue.RingConsistent := by
  have room := mt t.dropsAtWriter_iff.2 (by simp [keeps])
  simp only [not_or, not_and, not_not] at room
  obtain ⟨on, room⟩ := room
  obtain ⟨head, count, inFlight, few, tail⟩ := (Store.ringConsistent_iff on).1 h
  have pos := Store.capacity_pos on
  rw [Store.writeRecord_of_room on]
  refine (Store.ringConsistent_iff (by exact on)).2 ?_
  change (if t.count = t.capacity then (t.head + 1) % t.capacity else t.head) < t.capacity ∧
    (if t.count = t.capacity then t.count else t.count + 1) ≤ t.capacity ∧
    t.inFlight ≤ (if t.count = t.capacity then t.count else t.count + 1) ∧ t.inFlight ≤ 31 ∧
    (t.tail + 1) % t.capacity =
      ((if t.count = t.capacity then (t.head + 1) % t.capacity else t.head) +
        (if t.count = t.capacity then t.count else t.count + 1)) % t.capacity
  rw [tail, Nat.mod_add_mod]
  split
  · refine ⟨Nat.mod_lt _ pos, count, inFlight, few, ?_⟩
    rw [Nat.mod_add_mod, Nat.add_right_comm]
  · exact ⟨head, by omega, by omega, few, by rw [Nat.add_assoc]⟩

/-- Records retired from the head, and as many taken in flight as COUNT allows (R134). -/
theorem Store.RingConsistent.retireAndTake (h : t.RingConsistent) {n : Nat} (few : n ≤ 31) :
    (t.retireAndTake n).RingConsistent := by
  by_cases on : t.logPages = 0
  · have off : t.capacity = 0 := by simp [Store.capacity, on]
    rw [Store.RingConsistent, if_pos off] at h
    obtain ⟨head, tail, count, inFlight⟩ := h
    refine Store.ringConsistent_of_empty ?_ tail ?_ ?_
    · simp [Store.retireAndTake, Store.placeAfter, head, inFlight]
    · simp [Store.retireAndTake, count]
    · simp [Store.retireAndTake, Store.logOn, on]
  · obtain ⟨head, count, inFlight, -, tail⟩ := (Store.ringConsistent_iff on).1 h
    refine (Store.ringConsistent_iff (by exact on)).2 ?_
    have pos := Store.capacity_pos on
    have taken : (t.retireAndTake n).inFlight ≤ min n (t.count - t.inFlight) := by
      unfold Store.retireAndTake
      dsimp only
      split <;> omega
    refine ⟨Nat.mod_lt _ pos, ?_, ?_, ?_, ?_⟩
    · exact (Nat.sub_le ..).trans count
    · exact taken.trans (Nat.min_le_right ..)
    · exact (taken.trans (Nat.min_le_left ..)).trans few
    · change t.tail = ((t.head + t.inFlight) % t.capacity + (t.count - t.inFlight)) % t.capacity
      rw [tail, Nat.mod_add_mod]
      congr 1
      omega

end

/-! ## The log, with the append queue -/

section
variable {s t u : State} {r : Request}

/-- The log stays consistent with its ring and queue. -/
theorem State.LogConsistent.of_view (h : s.LogConsistent) (phase : t.ste.phase ≠ .s2 → s.ste.phase ≠ .s2)
    (ring : t.stl.ringView = s.stl.ringView) (mode : t.ctl.mode = .selftest → s.ctl.mode = .selftest)
    (queue : s.stl.queue = [] → t.stl.queue = []) : t.LogConsistent := by
  obtain ⟨consistent, empty, on⟩ := h
  refine ⟨fun p => (consistent (phase p)).of_view ring, fun m => queue (empty (mode m)), fun some => ?_⟩
  rw [Store.logOn_of_cfg (t := s.stl) (congrArg Prod.fst ring)]
  exact on fun none => some (queue none)

/-- A log that is empty, and whose queue is. -/
theorem State.LogConsistent.of_empty (ring : t.stl.RingConsistent) (queue : t.stl.queue = []) : t.LogConsistent :=
  ⟨fun _ => ring, fun _ => queue, fun some => absurd queue some⟩

/-- The log in RESET (R139). -/
theorem State.LogConsistent.reset (s : State) (k : ResetCause) : (s.beginReset k).LogConsistent :=
  .of_empty (Store.ringConsistent_of_empty rfl rfl rfl rfl) rfl

/-- The log when a test begins with nothing queued (R161). -/
theorem State.LogConsistent.begin (h : s.LogConsistent) (phase : s.ste.phase ≠ .s2)
    (ring : t.stl.ringView = s.stl.ringView) (queue : t.stl.queue = []) : t.LogConsistent :=
  .of_empty ((h.1 phase).of_view ring) queue

/-! ## Requests -/

theorem State.LogConsistent.writeWord (h : s.LogConsistent) (a : Nat) (w : Word) : (s.writeWord a w).LogConsistent := by
  unfold State.writeWord
  split
  · unfold State.writeRegister
    split
    case h_10 => exact .of_empty (Store.ringConsistent_of_empty rfl rfl rfl rfl) rfl
    all_goals exact h.of_view id rfl id id
  all_goals exact h.of_view id rfl id id

theorem State.LogConsistent.write (h : s.LogConsistent) (r : Request) : (applyWrite r s).LogConsistent := by
  unfold applyWrite
  split
  · obtain ⟨m, e⟩ := s.stl.writeStoreFrom_eq r.hdr 0 r.words.length r.words
    rw [e]
    exact h.of_view id rfl id id
  · exact State.writeFrom_keeps (fun _ a w hu => hu.writeWord a w) s _ _ h

/-- A DRAIN that passes takes at most 31 records (R133). -/
theorem State.drain_count_of_passes (passes : s.laterSteps r = none) (drain : r.hdr.command = .drain) :
    r.hdr.count.toNat ≤ 31 := by
  simp only [State.laterSteps, Option.or_eq_none_iff] at passes
  obtain ⟨-, -, count, -⟩ := passes
  have most : s.maxCount r.hdr.command ≤ 31 := by
    rw [drain]
    unfold State.maxCount
    dsimp only
    split <;> omega
  by_contra many
  rw [State.stepCount, if_neg (by omega)] at count
  exact nomatch count

theorem State.LogConsistent.drain (h : s.LogConsistent) (few : r.hdr.count.toNat ≤ 31) : (applyDrain r s).LogConsistent := by
  unfold applyDrain
  split
  · exact h
  · obtain ⟨consistent, empty, on⟩ := h
    exact ⟨fun p => (consistent p).retireAndTake few, empty, on⟩

/-- Each order keeps the log consistent. -/
theorem Order.effect_log {o : Order} (phase : s.ste.phase ≠ .s2) (h : s.LogConsistent) : (o.effect r s).LogConsistent := by
  have left : s.leaveRun.LogConsistent := h.of_view (by simp) (by simp) (by simp) (by simp)
  cases o with
  | startRun => exact h.of_view id rfl (fun m => nomatch m) id
  | stopRun =>
    simp only [Order.effect, applyStopRun, State.stopNow, State.stopAtFrame]
    split_ifs
    exacts [h, h.of_view id rfl id id, left, h, left, h.of_view id rfl id id]
  | enterQuiet =>
    simp only [Order.effect, applyEnterQuiet]
    split
    · exact h.of_view id rfl (fun m => nomatch m) id
    · exact h
  | softReset =>
    simp only [Order.effect, applySoftReset]
    split
    · exact .reset s _
    · exact h
  | runSelftest => exact h.begin phase rfl rfl
  | commit =>
    simp only [Order.effect, applyCommit, State.holdCommit]
    split_ifs <;> exact h.of_view id rfl id id
  | discardStaged | clearMute => exact h.of_view id rfl id id
  | logReset => exact .of_empty (Store.ringConsistent_of_empty rfl rfl rfl rfl) rfl

/-- A judged request keeps the log consistent. -/
theorem State.LogConsistent.judge {c : Instr} (modes : s.ModesConsistent) (h : s.LogConsistent)
    (serves : rowServes c r.hdr) : (s.judge (effectOf c r) r).LogConsistent := by
  have verdicts : State.VerdictKeeps (fun u => u.ctl = s.ctl ∧ u.ste = s.ste ∧ u.LogConsistent) := by
    constructor
    case opening =>
      rintro u hd ⟨ctl, ste, log⟩
      obtain ⟨b0, b1, e⟩ := u.openNeeded_eq hd
      rw [e]
      exact ⟨ctl, ste, log.of_view id rfl id id⟩
    all_goals
      intros
      rename_i hu
      obtain ⟨ctl, ste, log⟩ := hu
      exact ⟨by simpa using ctl, by simpa using ste, log.of_view (by simp) (by simp) (by simp) (by simp)⟩
  refine State.judge_leads verdicts (fun u x hu => hu.of_view id rfl id id)
    (fun u hu => hu.of_view (by simp) (by simp) (by simp) (by simp)) (fun u hu => hu.2.2) (fun passes u hu => ?_)
    ⟨rfl, rfl, h⟩
  obtain ⟨ctl, ste, log⟩ := hu
  rcases effectOf_cases serves with ⟨-, e⟩ | ⟨-, e⟩ | ⟨drain, e⟩ | ⟨o, order, e⟩ | ⟨-, e⟩ <;> rw [e]
  · exact log.write r
  · exact log.of_view id rfl id id
  · exact log.drain (State.drain_count_of_passes passes drain)
  · refine o.effect_log ?_ log
    have idle : s.ste.phase = .idle := modes.core.idle (by rcases State.order_legal passes order with ⟨m, -⟩ | ⟨m, -⟩ <;> simp [m])
    simp [ste, idle]
  · exact log

/-! ## The statement -/

/-- The log writer's step keeps the log consistent (R126). -/
theorem State.LogConsistent.writerStep (modes : s.ModesConsistent) (h : s.LogConsistent) : s.writerStep.LogConsistent := by
  obtain ⟨consistent, empty, on⟩ := h
  rcases s.writerStep_stl_cases with e | ⟨o, rest, awake, queue, cases⟩
  · exact State.LogConsistent.of_view (s := s) ⟨consistent, empty, on⟩ (by simp) (by simp [e, Store.stepTaken, Store.ringView])
      (by simp) (by simp [e, Store.stepTaken])
  · have running : s.ctl.mode ≠ .selftest := fun m => by simp [empty m] at queue
    have ring := consistent (by simp [modes.core.idle running])
    have logOn := on (by simp [queue])
    have keep (log : s.writerStep.stl.RingConsistent) (cfg : s.writerStep.stl.cfg = s.stl.cfg) : s.writerStep.LogConsistent :=
      ⟨fun _ => log, fun m => absurd (by simpa using m) running, fun _ => by rw [Store.logOn_of_cfg cfg]; exact logOn⟩
    rcases cases with ⟨-, e⟩ | ⟨keeps, -, e⟩ | ⟨-, -, -, e⟩
    · exact keep (by rw [e]; exact ring.of_view rfl) (by rw [e]; rfl)
    · have taken : s.stl.stepTaken.RingConsistent := ring.of_view rfl
      have pages : s.stl.logPages ≠ 0 := by simpa [Store.logOn] using logOn
      refine keep (by rw [e]; exact taken.writeRecord o keeps) ?_
      rw [e, Store.writeRecord_of_room (t := s.stl.stepTaken) pages]
      rfl
    · have same : (s.stl.stepTaken.startOpen (s.stl.placePage s.stl.tail)).ringView = s.stl.ringView := by
        unfold Store.startOpen
        cases s.stl.stepTaken.bankOf (s.stl.placePage s.stl.tail) <;> rfl
      exact keep (by rw [e]; exact ring.of_view same) (by rw [e]; exact congrArg Prod.fst same)

@[simp] theorem State.hold_ste (s : State) (f : FailedWord) : (s.hold f).ste = s.ste := by
  unfold State.hold
  dsimp only
  repeat' split
  all_goals rfl

@[simp] theorem State.hold_queue (s : State) (f : FailedWord) : (s.hold f).stl.queue = s.stl.queue := by
  unfold State.hold
  dsimp only
  repeat' split
  all_goals rfl

/-- A phase of the self-test ends: S1 may leave a ring that does not fit its configuration, which S2 empties (R152, R154). -/
theorem State.LogConsistent.endPhase (modes : s.ModesConsistent) (h : s.LogConsistent) (runs : s.ste.phase ≠ .idle)
    (failed : List FailedWord) : (s.endPhase failed).LogConsistent := by
  have mode := modes.testing.1 runs
  have queue := h.2.1 mode
  unfold State.endPhase
  generalize failed.filter _ = bad
  cases p : s.ste.phase with
  | idle => exact absurd p runs
  | s1 =>
    have held := State.foldl_hold_keeps (P := fun u => u.ste.phase = .s2 ∧ u.stl.queue = [])
      (fun u f hu => ⟨by simpa using hu.1, by simpa using hu.2⟩) { s with ste := s.ste.endPhase bad } bad
      ⟨by simp [SelfTest.endPhase, p, Phase.following], queue⟩
    exact ⟨fun other => absurd held.1 other, fun _ => held.2, fun some => absurd held.2 some⟩
  | s2 => exact .of_empty (Store.ringConsistent_of_empty rfl rfl rfl rfl) queue
  | s3 | s4 | s5 | s6 =>
    have ring := h.1 (by simp [p])
    exact .of_empty (ring.of_view rfl) queue

/-- The node leaves RESET with nothing queued (R167). -/
theorem State.LogConsistent.tryLeaveReset (h : s.LogConsistent) (phase : s.ste.phase ≠ .s2) (empty : s.stl.queue = [])
    (e : (t.stl, t.ste, t.ctl.mode) = (s.stl, s.ste, s.ctl.mode)) (mid : BitVec 4) : (t.tryLeaveReset mid).LogConsistent := by
  simp only [Prod.mk.injEq] at e
  obtain ⟨stl, ste, mode⟩ := e
  rcases t.tryLeaveReset_cases mid with ⟨-, -, e⟩ | ⟨-, e⟩ <;> rw [e]
  · exact h.begin phase (congrArg Store.ringView stl) (stl ▸ empty)
  · exact h.of_view (by rw [ste]; exact id) (by rw [stl]) (by rw [mode]; exact id) (by rw [stl]; exact id)

/-- A marker moves the node by a pending stop only (R47, R112). -/
theorem State.takeMarker_mode_cases (s : State) (n : BitVec 16) :
    (s.takeMarker n).ctl.mode = s.ctl.mode ∨
      (s.ctl.mode = .run ∧ s.ctl.stop ≠ none ∧ (s.takeMarker n).ctl.mode = .setup) := by
  have judged : (s.recordMarker n).completeness.ctl = s.ctl := (s.recordMarker_tables n).1
  unfold State.takeMarker
  dsimp only
  split_ifs with away now frame
  · exact .inl rfl
  · exact .inr ⟨not_not.1 away, by simp [now], by simp⟩
  · exact .inr ⟨not_not.1 away, by simp [frame], by simp⟩
  · left
    unfold State.commitAtMarker
    split
    · split <;> simp [judged]
    · simp [judged]

/-- A tick moves the node by a pending stop NOW only (R111). -/
theorem State.takeTick_mode_cases (s : State) (ltag : BitVec 6) :
    (s.takeTick ltag).ctl.mode = s.ctl.mode ∨
      (s.ctl.mode = .run ∧ s.ctl.stop = some .now ∧ (s.takeTick ltag).ctl.mode = .setup) := by
  have extra : s.releaseSlot.extraTick.ctl = s.ctl := by
    unfold State.extraTick
    dsimp only
    split
    · rfl
    · simp [State.releaseSlot]
  unfold State.takeTick
  by_cases away : s.ctl.mode ≠ .run
  · rw [if_pos away]
    exact .inl rfl
  by_cases now : s.ctl.stop = some .now
  · rw [if_neg away, if_pos now]
    exact .inr ⟨not_not.1 away, now, by simp⟩
  rw [if_neg away, if_neg now]
  left
  split
  · rfl
  · rfl
  · split
    · simp [State.walkEntry, apply_ite State.ctl, State.releaseSlot]
    · rw [extra]
  · rw [extra]

/-- A feed message is offered in RUN only, and joins the queue while the log is on (R73, R125). -/
theorem State.LogConsistent.takeMessage (h : s.LogConsistent) (feed : BitVec 2) (bits : BitVec 25) :
    (s.takeMessage feed bits).LogConsistent := by
  have offers : (s.takeMessage feed bits).stl = s.stl ∨
      (s.ctl.mode = .run ∧ ∃ o, (s.takeMessage feed bits).stl = s.stl.offer o) := by
    unfold State.takeMessage
    split_ifs
    · exact .inl rfl
    · exact .inl rfl
    · exact .inl rfl
    · unfold State.claimMessage
      dsimp only
      split
      · rename_i logged
        simp only [Bool.and_eq_true, decide_eq_true_eq] at logged
        exact .inr ⟨logged.1.2, _, State.offer_stl ..⟩
      · exact .inl rfl
  have same (queue : (s.takeMessage feed bits).stl.queue = s.stl.queue)
      (ring : (s.takeMessage feed bits).stl.ringView = s.stl.ringView) : (s.takeMessage feed bits).LogConsistent :=
    h.of_view (by simp) ring (by simp) (by rw [queue]; exact id)
  rcases offers with e | ⟨run, o, e⟩
  · exact same (by rw [e]) (by rw [e])
  rcases s.stl.offer_cases o with ⟨-, e'⟩ | ⟨-, -, e'⟩ | ⟨logOn, -, e'⟩
  · exact same (by rw [e, e']) (by rw [e, e'])
  · exact same (by rw [e, e']) (by rw [e, e']; rfl)
  · rw [e'] at e
    refine ⟨fun phase => ?_, fun m => ?_, fun _ => ?_⟩
    · rw [e]
      exact (h.1 (by simpa using phase)).of_view rfl
    · simp [run] at m
    · rw [e]
      exact logOn

/-- Every act keeps the log consistent. -/
theorem State.Act.keeps_log (act : s.Act t) (modes : s.ModesConsistent) (h : s.LogConsistent) : t.LogConsistent := by
  have leaving (reset : s.ctl.mode = .reset) : s.ste.phase ≠ .s2 ∧ s.stl.queue = [] :=
    ⟨by simp [modes.core.idle (by simp [reset])], (modes.empty reset).2.2.1⟩
  cases act with
  | now m | alert low | advance | clash detail | chi level | resync f => exact h.of_view id rfl id id
  | endUnit m => exact h.of_view id rfl id id
  | writerStep => exact h.writerStep modes
  | completeOpen b =>
    rcases s.completeOpen_cases b with ⟨q, -, e⟩ | ⟨-, e⟩ <;> rw [e]
    · cases b <;> exact h.of_view id rfl id id
    · exact h
  | endPhase failed =>
    rcases s.endPhaseIfDone_cases failed with ⟨runs, -, e⟩ | ⟨-, e⟩ <;> rw [e]
    · exact h.endPhase modes runs failed
    · exact h
  | judge c r frames serves size => exact h.judge modes serves
  | endReply r n reply =>
    rcases s.endReply_cases r with ⟨-, e⟩ | ⟨-, e⟩ | ⟨-, e⟩ <;> rw [e]
    · exact h.of_view id rfl id id
    · exact h.of_view id rfl (fun m => nomatch m) id
    · exact .reset _ _
  | countBeacon =>
    rcases s.countBeacon_cases with ⟨-, e⟩ | ⟨-, e⟩ <;> rw [e]
    · exact .reset _ _
    · exact h.of_view id rfl id id
  | endCauses u mid =>
    rcases s.endCauses_cases u mid with ⟨cause, e⟩ | ⟨-, -, e⟩ <;> rw [e]
    · obtain ⟨phase, queue⟩ := leaving <| modes.held.2 <| by
        rcases cause with ⟨-, long⟩ | step
        · simp [State.resetHeld, long]
        · simp [State.resetHeld, step]
      refine State.LogConsistent.of_view (s := State.tryLeaveReset _ mid) ?_ id rfl id id
      exact h.tryLeaveReset phase queue (by rfl) mid
    · exact h
  | endRun short =>
    rcases s.endRun_cases with ⟨-, -, -, e⟩ | ⟨-, -, e⟩ | e <;> rw [e]
    · exact h.of_view id rfl (fun m => nomatch m) id
    · exact h.of_view id rfl id id
    · exact h.of_view id rfl id id
  | pinReset power => exact .reset _ _
  | pinRelease mid =>
    unfold State.pinRelease
    split
    · rename_i low
      obtain ⟨phase, queue⟩ := leaving (modes.held.2 (by simp [State.resetHeld, low]))
      exact h.tryLeaveReset phase queue (by rfl) mid
    · exact h
  | takeMessage feed bits => exact h.takeMessage feed bits
  | expireWatch | cutShort | beginRequest | judgeHeader o k =>
    exact h.of_view (by simp) (by simp) (by simp) (by simp)
  | takeMarker n =>
    refine h.of_view (by simp) (by simp) (fun m => ?_) (by simp)
    rcases s.takeMarker_mode_cases n with e | ⟨-, -, e⟩
    · rwa [← e]
    · exact nomatch e.symm.trans m
  | takeTick ltag =>
    refine h.of_view (by simp) (by simp) (fun m => ?_) (by simp)
    rcases s.takeTick_mode_cases ltag with e | ⟨-, -, e⟩
    · rwa [← e]
    · exact nomatch e.symm.trans m

end

/-- Settles O9: every act keeps the log consistent in a node whose operating state agrees with its blocks. -/
theorem logRingStaysConsistent : Obligations.LogRingStaysConsistent := fun _ _ modes h step =>
  (step_keeps (P := fun s => s.ModesConsistent ∧ s.LogConsistent)
    (fun _ _ h => ⟨h.1.of_eq rfl rfl fun _ empty => empty, h.2.of_view id rfl id id⟩)
    (fun _ _ act h => ⟨act.keeps_modes h.1, act.keeps_log h.1 h.2⟩) step ⟨modes, h⟩).2

end Sys2Proof.Machine
end

section
/-! SUPPORT. One link unit: its place, what it does at steps 1 and 2 when it ends no run and no reset cause, and what it does
at step 7 (O14, O18, O23). -/

namespace Sys2Proof.Machine

set_option Elab.async false

open Sys2Proof (Instr LinkUnit Bank)

section
variable {s v : State} {u : LinkUnit}

/-! ## The beacon counter, RSTN and the instant -/

theorem State.takeOwn_beacons (s : State) (p : Nat) : (s.takeOwn p).link.beacons = s.link.beacons := by
  simp [State.takeOwn, apply_ite State.link, apply_ite Link.beacons, State.endPhaseIfDone_link_softStep,
    (State.judgeWaiting_runKept _).beacons]

@[simp] theorem State.reach_beacons (s : State) (p : Nat) : (s.reach p).link.beacons = s.link.beacons := by
  rcases s.reach_cases p with ⟨m, -, -, e⟩ | ⟨-, e⟩ <;> rw [e]
  · exact s.takeOwn_beacons p
  · exact s.close_beacons

@[simp] theorem State.cutShort_beacons (s : State) : s.cutShort.link.beacons = s.link.beacons := by
  rcases s.cutShort_cases with ⟨r, n, -, e⟩ | ⟨-, e⟩ <;> rw [e] <;> rfl

theorem State.takeOwn_rstnLow (s : State) (p : Nat) :
    (s.takeOwn p).ctl.rstnLow = s.ctl.rstnLow ∧ (s.takeOwn p).ctl.softStep = s.ctl.softStep := by
  have phase (s : State) (failed : List FailedWord) : (s.endPhaseIfDone failed).ctl.rstnLow = s.ctl.rstnLow ∧
      (s.endPhaseIfDone failed).ctl.softStep = s.ctl.softStep := by
    rcases s.endPhaseIfDone_cases failed with ⟨-, -, e⟩ | ⟨-, e⟩ <;> rw [e]
    · unfold State.endPhase
      cases s.ste.phase with
      | s1 => simp [State.phaseEffect, (State.foldl_hold_link_ctl _ _).2.2]
      | _ => exact ⟨rfl, rfl⟩
    · exact ⟨rfl, rfl⟩
  constructor <;> simp [State.takeOwn, apply_ite State.ctl, apply_ite Control.rstnLow, apply_ite Control.softStep, phase]

@[simp] theorem State.close_rstnLow (s : State) : s.close.ctl.rstnLow = s.ctl.rstnLow := by
  rcases s.close_cases with ⟨-, e⟩ | ⟨m, -, e⟩ <;> rw [e]
  exact (s.takeOwn_rstnLow 90).1

@[simp] theorem State.reach_softStep (s : State) (p : Nat) : (s.reach p).ctl.softStep = s.ctl.softStep := by
  rcases s.reach_cases p with ⟨m, -, -, e⟩ | ⟨-, e⟩ <;> rw [e]
  · exact (s.takeOwn_rstnLow p).2
  · exact s.close_softStep

@[simp] theorem State.openUnit_rstnLow (s : State) (p : Nat) : (s.openUnit p).ctl.rstnLow = s.ctl.rstnLow := by
  rcases s.openUnit_cases p with ⟨m, -, -, e⟩ | ⟨-, e⟩ <;> rw [e]
  · rfl
  · exact s.close_rstnLow

/-- The instant of a unit admits what the link does at step 7. -/
theorem State.openUnit_now {p : Nat} (hp : p ≤ 70) (s : State) :
    ∃ m, (s.openUnit p).now = some m ∧ m.place < 70 := by
  rcases s.openUnit_cases p with ⟨m, -, awaits, e⟩ | ⟨-, e⟩ <;> rw [e]
  · simp only [Moment.awaits, Bool.and_eq_true, decide_eq_true_eq] at awaits
    refine ⟨_, rfl, ?_⟩
    simp only [Moment.withUnit, Moment.upTo]
    omega
  · exact ⟨_, rfl, by decide⟩

/-- At step 7 of an open instant only the log writer's step has been taken in between (R60). -/
theorem State.reach_seventy {m : Moment} (now : s.now = some m) (hm : m.place < 70) :
    s.reach 70 = { s.writerStep with now := some { m with place := 70 } } := by
  rw [State.reach_of_admits now ((m.admits_iff 70).2 ⟨.inl hm, by simp⟩), State.takeOwn_seventy]

/-- The log writer's step does not look at the link interface. -/
theorem State.writerStep_withLink (s : State) (l : Link) :
    State.writerStep { s with link := l } = { s.writerStep with link := l } := by
  have treated (x : State) (o : Offer) : State.treatRecord { x with link := l } o = { x.treatRecord o with link := l } := by
    simp only [State.treatRecord, State.logEvents]
    split_ifs <;> rfl
  unfold State.writerStep
  dsimp only
  split
  · split
    · rfl
    · exact treated { s with stl := s.stl.stepTaken } _
  · rfl

/-- The node with another beacon counter. -/
def State.withBeacons (s : State) (b : BitVec 8) : State := { s with link := { s.link with beacons := b } }

theorem State.withBeacons_self (s : State) : s.withBeacons s.link.beacons = s := rfl

/-- Step 7 of an instant with another beacon counter. -/
theorem State.reach_withBeacons {m : Moment} (now : s.now = some m) (hm : m.place < 70) (b : BitVec 8) :
    (s.withBeacons b).reach 70 = (s.reach 70).withBeacons b := by
  rw [State.reach_seventy now hm, State.reach_seventy (s := s.withBeacons b) now hm, State.withBeacons,
    State.writerStep_withLink, State.withBeacons]
  simp

/-! ## A unit that ends no run and no reset cause -/

/-- The place of a unit that is not part of a run, and ends neither a soft reset's step nor a reply that QUIET or a reset
follows: step 7. -/
theorem State.unitPlace_seventy (run : u = .beacon ∧ s.link.beacons ≠ 63 ∨ s.link.beacons = 0)
    (step : ∀ n, s.ctl.softStep = some n → 2 ≤ n) (reply : ∀ r, s.link.rx.endedBy u = some r → r.after = .nothing) :
    s.unitPlace u = 70 := by
  have noStep : ¬s.ctl.softStep.any (· ≤ 1) = true := fun ends => by
    obtain ⟨n, hn, one⟩ := (Option.any_eq_true _ _).1 ends
    exact absurd (step n hn) (by simpa using one)
  have noReply : ¬(s.link.rx.endedBy u).any (·.after ≠ .nothing) = true := fun ends => by
    obtain ⟨r, hr, other⟩ := (Option.any_eq_true _ _).1 ends
    exact absurd (reply r hr) (by simpa using other)
  rw [State.unitPlace, if_neg, if_neg, if_neg, if_neg noReply]
  · rcases run with ⟨beacon, -⟩ | none
    · simp [beacon]
    · simp [none]
  · rintro (⟨other, long⟩ | ends)
    · rcases run with ⟨beacon, -⟩ | none
      · exact other beacon
      · simp [none] at long
    · exact noStep ends
  · rintro ⟨-, last⟩
    rcases run with ⟨-, other⟩ | none
    · exact other last
    · simp [none] at last

/-- No reset cause ends with a unit that ends neither a long run nor a soft reset's step. -/
theorem State.endCauses_none (run : u = .beacon ∨ s.link.beacons.toNat < 64) (step : s.ctl.softStep ≠ some 0)
    (mid : BitVec 4) : s.endCauses u mid = s := by
  rcases s.endCauses_cases u mid with ⟨⟨other, long⟩ | ended, -⟩ | ⟨-, -, e⟩
  · rcases run with beacon | short
    · exact absurd beacon other
    · omega
  · exact absurd ended step
  · exact e

/-- The beacon counter with the unit counted (R54). -/
def countedBy (u : LinkUnit) (b : BitVec 8) : BitVec 8 := if u = .beacon then satInc b else b

/-- Steps 1 and 2 of a unit that neither ends a reply nor moves one on, and that no run and no cause ends with: a BEACON is
counted. -/
theorem State.earlySteps_of_still (still : v.replyUnit u = v)
    (run : u = .beacon ∧ v.link.beacons ≠ 63 ∨ v.link.beacons = 0) (step : v.ctl.softStep ≠ some 0) (mid : BitVec 4) :
    v.earlySteps u mid = v.withBeacons (countedBy u v.link.beacons) := by
  by_cases beacon : u = .beacon
  · subst beacon
    have other : v.link.beacons ≠ 63 := by
      rcases run with ⟨-, other⟩ | none
      · exact other
      · simp [none]
    rw [State.earlySteps_beacon, still]
    rcases v.countBeacon_cases with ⟨last, -⟩ | ⟨-, e⟩
    · exact absurd last other
    · rw [e, State.endCauses_none (.inl rfl) (by exact step)]
      rfl
  · have none : v.link.beacons = 0 := run.resolve_left fun h => beacon h.1
    have ended := State.endCauses_none (s := v) (u := u) (.inr (by simp [none])) step mid
    rw [countedBy, if_neg beacon, State.withBeacons_self]
    simp [State.earlySteps, still, beacon, ended, none]

/-- In LISTEN a BEACON that is not the 64th of a run is counted, and nothing else happens (R54). -/
theorem State.receive_beacon_listen (listen : s.link.rx = .listen) (other : s.link.beacons ≠ 63)
    (step : ∀ n, s.ctl.softStep = some n → 2 ≤ n) (mid : BitVec 4) :
    s.receive .beacon mid = (s.openUnit 70).withBeacons (satInc s.link.beacons) := by
  have place : s.unitPlace .beacon = 70 :=
    State.unitPlace_seventy (.inl ⟨rfl, other⟩) step (by simp [listen, RxState.endedBy, RxState.reply?])
  have still := State.replyUnit_of_listen (State.openUnit_of_listen listen 70) .beacon
  rw [State.receive, State.unit, place, State.earlySteps_of_still still (.inl ⟨rfl, by simpa using other⟩)
    (State.openUnit_softStep_ne_zero step 70), State.linkStep_beacon_of_listen (by exact State.openUnit_of_listen listen 70), State.openUnit_beacons]
  rfl

/-- A START in LISTEN that ends no run begins a request at step 7, in the states that frame requests (R3). -/
theorem State.receive_start_listen (listen : s.link.rx = .listen) (none : s.link.beacons = 0)
    (step : ∀ n, s.ctl.softStep = some n → 2 ≤ n) (mid : BitVec 4) :
    s.receive .start mid = ((s.openUnit 70).reach 70).beginRequest := by
  have place : s.unitPlace .start = 70 :=
    State.unitPlace_seventy (.inr none) step (by simp [listen, RxState.endedBy, RxState.reply?])
  have opened := State.openUnit_of_listen listen 70
  have early : (s.openUnit 70).earlySteps .start mid = s.openUnit 70 := by
    rw [State.earlySteps_of_still (State.replyUnit_of_listen opened .start) (.inr (by simpa using none))
      (State.openUnit_softStep_ne_zero step 70)]
    rfl
  rw [State.receive, State.unit, place, early]
  simp [State.linkStep, opened, RxState.cutBy, RxState.inRequest, RxState.reply?]

/-- A unit changes the beacon counter by counting a BEACON (R54). -/
theorem State.receive_beacon_beacons (s : State) (mid : BitVec 4) :
    (s.receive .beacon mid).link.beacons = satInc s.link.beacons := by
  obtain ⟨v, hv⟩ : ∃ v, (s.openUnit (s.unitPlace .beacon)).replyUnit .beacon = v := ⟨_, rfl⟩
  have same : v.link.beacons = s.link.beacons := by rw [← hv, State.replyUnit_beacons, State.openUnit_beacons]
  have counted : v.countBeacon.link.beacons = satInc s.link.beacons := by
    rcases v.countBeacon_cases with ⟨-, e⟩ | ⟨-, e⟩ <;> rw [e, ← same] <;> rfl
  have caused : (v.countBeacon.endCauses .beacon mid).link.beacons = satInc s.link.beacons := by
    rcases v.countBeacon.endCauses_cases .beacon mid with ⟨-, e⟩ | ⟨-, -, e⟩ <;> simp [e, counted]
  rw [State.receive, State.unit, State.earlySteps_beacon, hv]
  rcases (v.countBeacon.endCauses .beacon mid).linkStep_cases .beacon (s.unitPlace .beacon) with
    ⟨-, e⟩ | ⟨-, e, -⟩ | ⟨-, e, -⟩ | ⟨-, -, e⟩
  · simp [e, caused]
  · exact nomatch e
  · exact nomatch e
  · rw [e, caused]

/-! ## A unit that cuts a request or a reply short -/

/-- What a unit cuts short goes on until step 7: a reply that nothing follows, or a request (R4, R25). -/
theorem RxState.endedBy_of_cut {rx : RxState} (cut : rx.cutBy u = true) (r : Reply) (ended : rx.endedBy u = some r) :
    r.after = .nothing := by
  cases u <;> cases rx <;> simp_all [RxState.cutBy, RxState.endedBy, RxState.endingReply, RxState.inRequest, RxState.reply?]

theorem RxState.incomplete_of_cut {rx : RxState} (cut : rx.cutBy u = true) : rx.complete = false := by
  cases u <;> cases rx <;> simp_all [RxState.cutBy, RxState.inRequest, RxState.reply?, RxState.complete]

theorem State.replyUnit_of_cut (cut : v.link.rx.cutBy u = true) : v.replyUnit u = v := by
  unfold State.replyUnit
  split
  · rename_i r ended
    rw [if_pos ⟨RxState.endedBy_of_cut cut r ended, cut⟩]
  · rw [if_pos]
    cases u <;> simp_all [RxState.cutBy]

/-- A unit that is part of no run cuts a request or a reply short at step 7, after the log writer's step (R4, R25). -/
theorem State.receive_of_cut (cut : s.link.rx.cutBy u = true) (none : s.link.beacons = 0)
    (step : ∀ n, s.ctl.softStep = some n → 2 ≤ n) (mid : BitVec 4) :
    s.receive u mid =
      (((s.openUnit 70).reach 70).withBeacons (countedBy u 0)).cutShort.framing u := by
  have place : s.unitPlace u = 70 := State.unitPlace_seventy (.inr none) step fun r => RxState.endedBy_of_cut cut r
  have rx : (s.openUnit 70).link.rx = s.link.rx := State.openUnit_rx (RxState.incomplete_of_cut cut) 70
  have none' : (s.openUnit 70).link.beacons = 0 := by simpa using none
  have opened := State.replyUnit_of_cut (v := s.openUnit 70) (by rw [rx]; exact cut)
  obtain ⟨m, now, early⟩ := s.openUnit_now (p := 70) (Nat.le_refl _)
  rw [State.receive, State.unit, place,
    State.earlySteps_of_still opened (.inr none') (State.openUnit_softStep_ne_zero step 70), none',
    ← State.reach_withBeacons now early]
  have still : ((s.openUnit 70).withBeacons (countedBy u 0)).link.rx.cutBy u = true := by
    change (s.openUnit 70).link.rx.cutBy u = true
    rw [rx, cut]
  rw [State.linkStep, if_pos still]
  rfl

end

/-- Settles O14: `State.receive_start_listen`, `State.receive_beacon_beacons` and `State.receive_beacon_listen`. -/
theorem startAndBeaconUnitsReceived : Obligations.StartAndBeaconUnitsReceived := by
  refine ⟨?_, fun s => ⟨_, rfl, ?_⟩, ?_⟩
  · intro mid s listen none v w step
    have still : w.link.rx = .listen := by
      have opened : v.link.rx = .listen := State.openUnit_of_listen listen 70
      rw [← opened]
      exact State.reach_rx (by rw [opened]; rfl) 70
    have next : exec (.startUnit mid) s = .next w.beginRequest := congrArg _ (State.receive_start_listen listen none step mid)
    rw [next, State.beginRequest]
    have quiet : w.withRx .listen = w := by rw [← still]; rfl
    cases mode : w.ctl.mode <;> simp [Mode.frames, quiet]
  · rw [State.receive_beacon_beacons, satInc_eight]
  · intro s listen other v step
    rw [← satInc_eight]
    exact congrArg _ (State.receive_beacon_listen listen other step _)

/-- Settles O18: a request is cut short as `State.receive_of_cut` says. -/
theorem framingErrorCutsRequest : Obligations.FramingErrorCutsRequest := by
  constructor
  · intro u s other none request v w frames step
    have inside : s.link.rx.inRequest = true := by
      rcases request with ⟨k, rx⟩ | ⟨h, k, rx, block⟩ <;> simp [RxState.inRequest, *]
    have cut : s.link.rx.cutBy u = true := by cases u <;> simp_all [RxState.cutBy]
    have noReply : s.link.rx.reply? = Option.none := by
      rcases request with ⟨k, rx⟩ | ⟨h, k, rx, -⟩ <;> rw [rx] <;> rfl
    have rx : w.link.rx = s.link.rx := by
      have opened : v.link.rx = s.link.rx := State.openUnit_rx (RxState.incomplete_of_cut cut) 70
      rw [← opened]
      exact State.reach_rx (opened ▸ RxState.incomplete_of_cut cut) 70
    have framed : w.ctl.mode.frames = true := v.reach_frames 70 frames
    have error : (w.withBeacons (countedBy u 0)).cutShort = (w.withBeacons (countedBy u 0)).framingError := by
      rcases (w.withBeacons (countedBy u 0)).cutShort_cases with ⟨r, n, reply, -⟩ | ⟨-, e⟩
      · exact nomatch (rx ▸ noReply).symm.trans reply
      · exact e
    have next : exec (.framingError u) s = .next (s.receive u 0) := if_pos ⟨inside, other⟩
    rw [next, State.receive_of_cut cut none step, error, State.framing_of_frames (by exact framed), ← satInc_eight]
    cases u <;> first | exact absurd rfl other | rfl
  · intro u s h k rx noBlock
    exact if_neg (by simp [rx, RxState.inRequest, noBlock])

/-! ## A reply that is abandoned -/

section
variable {s v : State} {u : LinkUnit} {r : Reply}

/-- A reply that QUIET or a soft reset follows ends at step 1 (R48, R165). -/
theorem State.replyUnit_of_ending (ended : v.link.rx.endedBy u = some r) (after : r.after ≠ .nothing) :
    v.replyUnit u = v.endReply r := by
  simp [State.replyUnit, ended, after]

/-- The counter after a unit that is part of no run but its own (R54). -/
theorem State.earlySteps_of_noRun (none : (v.replyUnit u).link.beacons = 0) (mid : BitVec 4) :
    v.earlySteps u mid = ((v.replyUnit u).withBeacons (countedBy u 0)).endCauses u mid := by
  by_cases beacon : u = .beacon
  · subst beacon
    rw [State.earlySteps_beacon]
    rcases (v.replyUnit .beacon).countBeacon_cases with ⟨last, -⟩ | ⟨-, e⟩
    · simp [none] at last
    · rw [e, none]
      rfl
  · have same : (v.replyUnit u).withBeacons (countedBy u 0) = v.replyUnit u := by
      rw [countedBy, if_neg beacon, ← none, State.withBeacons_self]
    have ended : ((v.replyUnit u).endCauses u mid).link.beacons = 0 := by
      rcases (v.replyUnit u).endCauses_cases u mid with ⟨-, e⟩ | ⟨-, -, e⟩ <;> simp [e, none]
    rw [same]
    simp [State.earlySteps, beacon, ended]

/-- The node when the reset causes that end with the unit no longer hold. -/
def State.causesEnded (s : State) (u : LinkUnit) : State :=
  { s with
    link := { s.link with beacons := if u ≠ .beacon ∧ 64 ≤ s.link.beacons.toNat then 0 else s.link.beacons }
    ctl := { s.ctl with softStep := if s.ctl.softStep = some 0 then none else s.ctl.softStep } }

theorem State.causesEnded_of_step (step : s.ctl.softStep ≠ some 0) :
    s.causesEnded u = s.withBeacons (if u ≠ .beacon ∧ 64 ≤ s.link.beacons.toNat then 0 else s.link.beacons) := by
  rw [State.causesEnded, if_neg step]
  rfl

theorem State.endCauses_eq (s : State) (u : LinkUnit) (mid : BitVec 4) :
    s.endCauses u mid =
      if (u ≠ .beacon ∧ 64 ≤ s.link.beacons.toNat) ∨ s.ctl.softStep = some 0 then
        ((s.causesEnded u).tryLeaveReset mid).atPlace 13
      else s := by
  rcases s.endCauses_cases u mid with ⟨ends, e⟩ | ⟨run, step, e⟩ <;> rw [e]
  · rw [if_pos ends]
    rfl
  · rw [if_neg]
    rintro (⟨other, long⟩ | ended)
    · rcases run with beacon | short
      · exact other beacon
      · omega
    · exact step ended

/-- Reset causes that end leave a node as it is that is awake or still held in RESET. -/
theorem State.endCauses_of_stays (stays : s.ctl.mode ≠ .reset ∨ (s.causesEnded u).resetHeld = true) (mid : BitVec 4) :
    ∃ now, s.endCauses u mid = { s.causesEnded u with now := now } := by
  rw [State.endCauses_eq]
  split
  · rcases (s.causesEnded u).tryLeaveReset_cases mid with ⟨reset, free, -⟩ | ⟨-, e⟩
    · rcases stays with awake | held
      · exact absurd reset awake
      · simp [held] at free
    · rw [e]
      exact ⟨_, rfl⟩
  · rename_i ends
    simp only [not_or] at ends
    exact ⟨s.now, by rw [State.causesEnded, if_neg ends.1, if_neg ends.2]⟩

/-- The end of an ENTER_QUIET reply leaves the node in QUIET (R48). -/
theorem State.earlySteps_of_quiet (ended : v.link.rx.endedBy u = some r) (after : r.after = .enterQuiet)
    (none : v.link.beacons = 0) (mid : BitVec 4) :
    ∃ now, v.earlySteps u mid = { ((v.withRx .listen).goQuiet.withBeacons (countedBy u 0)).causesEnded u with now := now } := by
  have quiet : v.endReply r = (v.withRx .listen).goQuiet := by simp [State.endReply, State.afterReply, after]
  have reply := State.replyUnit_of_ending ended (by simp [after])
  rw [State.earlySteps_of_noRun (by rw [reply, State.endReply_beacons, none]), reply, quiet]
  exact State.endCauses_of_stays (.inl (show Mode.quiet ≠ .reset by decide)) mid

/-- In RESET the end of a short run only returns the counter to 0 (R56). -/
theorem State.endRun_of_reset (reset : s.ctl.mode = .reset) : s.endRun = s.runEnded :=
  State.endRun_of_ignored (fun quiet => nomatch reset.symm.trans quiet)
    fun mode => by rcases mode with m | m <;> exact nomatch reset.symm.trans m

/-- The end of a SOFT_RESET reply begins the soft reset, whose step has 16 units to pass (R51, R163, R165). -/
theorem State.earlySteps_of_soft (ended : v.link.rx.endedBy u = some r) (after : r.after = .softReset)
    (other : u = .beacon → v.link.beacons ≠ 63) (mid : BitVec 4) :
    ∃ b now, v.earlySteps u mid = { ((v.withRx .listen).beginReset .soft).withBeacons b with now := now } ∧
      (v.link.beacons = 0 → b = countedBy u 0) := by
  have soft : v.endReply r = (v.withRx .listen).beginReset .soft := by simp [State.endReply, State.afterReply, after]
  have reply := State.replyUnit_of_ending ended (by simp [after])
  obtain ⟨x, hx⟩ : ∃ x, (v.withRx .listen).beginReset .soft = x := ⟨_, rfl⟩
  have reset : x.ctl.mode = .reset ∧ x.ctl.softStep = some 16 := by rw [← hx]; exact ⟨rfl, rfl⟩
  have beacons : x.link.beacons = v.link.beacons := by rw [← hx]; rfl
  rw [hx] at soft ⊢
  have held (y : State) (step : y.ctl.softStep = some 16) :
      ∃ b now, y.endCauses u mid = { y.withBeacons b with now := now } ∧ (y.link.beacons.toNat < 64 → b = y.link.beacons) := by
    obtain ⟨now, e⟩ := y.endCauses_of_stays (u := u) (.inr (by simp [State.resetHeld, State.causesEnded, step])) mid
    rw [State.causesEnded_of_step (by rw [step]; exact fun e => nomatch e)] at e
    exact ⟨_, now, e, fun short => if_neg fun h : u ≠ .beacon ∧ 64 ≤ y.link.beacons.toNat => absurd h.2 (by omega)⟩
  by_cases beacon : u = .beacon
  · subst beacon
    rw [State.earlySteps_beacon, reply, soft]
    rcases x.countBeacon_cases with ⟨last, -⟩ | ⟨-, counted⟩
    · exact absurd (beacons ▸ last) (other rfl)
    · obtain ⟨b, now, e, short⟩ := held (x.withBeacons (satInc x.link.beacons)) reset.2
      rw [counted]
      refine ⟨b, now, e, fun none => ?_⟩
      have zero : x.link.beacons = 0 := beacons.trans none
      rw [short (show (satInc x.link.beacons).toNat < 64 by rw [zero]; decide), zero]
      rfl
  · obtain ⟨b, now, e, short⟩ := held x reset.2
    have run : v.earlySteps u mid = if b ≠ 0 then { x.withBeacons b with now := now }.endRun else { x.withBeacons b with now := now } := by
      simp only [State.earlySteps, reply, soft, if_neg beacon, e]
      simp [beacon, State.withBeacons]
    rw [run]
    split
    · rw [State.endRun_of_reset (by exact reset.1)]
      exact ⟨0, _, rfl, fun _ => by rw [countedBy, if_neg beacon]⟩
    · rename_i zero
      exact ⟨b, now, rfl, fun _ => by rw [countedBy, if_neg beacon]; exact not_not.1 zero⟩

/-- A unit that ends a reply that QUIET or a soft reset follows has acted before step 7. -/
theorem State.unitPlace_of_ending (ended : s.link.rx.endedBy u = some r) (after : r.after ≠ .nothing) :
    s.unitPlace u ≠ 70 := by
  have ends : (s.link.rx.endedBy u).any (·.after ≠ .nothing) = true := by simp [ended, after]
  unfold State.unitPlace
  rw [if_pos ends]
  split_ifs <;> decide

theorem RxState.endedBy_of_reply {rx : RxState} {n : Nat} (reply : rx.reply? = some (r, n))
    (hu : u = .start ∨ u = .beacon) : rx.endedBy u = some r := by
  rcases hu with rfl | rfl <;> simp [RxState.endedBy, reply]

end

theorem Reply.truncatedDetail_eq (r : Reply) (sent : Nat) :
    r.truncatedDetail sent = BitVec.ofNat 8 (min sent 255) ++ 0#1 ++ r.command.code ++ r.seq := by
  have command (c : Command) : (c.code.setWidth 4 : BitVec 4) = 0#1 ++ c.code := by cases c <;> rfl
  rw [Reply.truncatedDetail, octets2, command]
  generalize BitVec.ofNat 8 (min sent 255) = a
  generalize r.command.code = b
  generalize r.seq = c
  ext i hi
  simp only [BitVec.getElem_append, Nat.sub_sub, BitVec.getElem_zero]
  split_ifs <;> first | rfl | omega

/-- Settles O23: a reply that nothing follows is cut short at step 7, any other ends at step 1. -/
theorem replyAbandoned : Obligations.ReplyAbandoned := by
  intro s u r sent reply unit none v w x
  have closed : s.close.link.rx.reply? = some (r, sent) := by
    rw [State.close_rx (RxState.incomplete_of_reply reply), reply]
  have next : exec (.replyTruncated u) s = .next (s.receive u 0) := if_pos ⟨by rw [closed]; rfl, unit⟩
  have opened (p : Nat) : (s.openUnit p).link.rx = s.link.rx := State.openUnit_rx (RxState.incomplete_of_reply reply) p
  have ended : x.link.rx.endedBy u = some r := by
    rw [show x.link.rx = s.link.rx from opened _]
    exact RxState.endedBy_of_reply reply unit
  have last (after : r.after ≠ .nothing) {y : State} (early : x.earlySteps u 0 = y) (listen : y.link.rx = .listen)
      (deaf : y.ctl.mode.frames = false) : s.receive u 0 = y := by
    rw [State.receive, State.unit, show (s.openUnit (s.unitPlace u)).earlySteps u 0 = y from early,
      State.linkStep_of_listen listen u (State.unitPlace_of_ending (RxState.endedBy_of_reply reply unit) after),
      State.framing_of_not_frames deaf]
  have count : countedBy u 0 = if u = LinkUnit.beacon then 1 else 0 := rfl
  refine ⟨fun after frames step => ?_, fun after => ?_, fun after => ?_⟩
  · have cut : s.link.rx.cutBy u = true := by
      rcases unit with rfl | rfl <;> simp [RxState.cutBy, reply, after]
    have rx : w.link.rx.reply? = some (r, sent) := by
      rw [← reply, ← opened 70]
      exact congrArg RxState.reply? (State.reach_rx (by rw [opened 70]; exact RxState.incomplete_of_reply reply) 70)
    have abandoned : (w.withBeacons (countedBy u 0)).cutShort = (w.withBeacons (countedBy u 0)).abandonReply r sent := by
      rcases (w.withBeacons (countedBy u 0)).cutShort_cases with ⟨r', n, reply', e⟩ | ⟨no, -⟩
      · obtain ⟨rfl, rfl⟩ := Prod.mk.inj (Option.some.inj (rx.symm.trans reply'))
        exact e
      · exact nomatch no.symm.trans rx
    have framed : w.ctl.mode.frames = true := v.reach_frames 70 frames
    rw [next, State.receive_of_cut cut none step, abandoned, State.framing_of_frames (by exact framed), ← Reply.truncatedDetail_eq]
    rcases unit with rfl | rfl <;> rfl
  · obtain ⟨now, early⟩ := State.earlySteps_of_quiet ended after (by simpa [x] using none) 0
    refine ⟨_, next, ?_⟩
    rw [last (by simp [after]) early rfl rfl]
    exact ⟨rfl, rfl, by rcases unit with rfl | rfl <;> rfl, rfl⟩
  · obtain ⟨b, now, early, counted⟩ := State.earlySteps_of_soft ended after (by simp [x, none]) 0
    refine ⟨_, next, ?_⟩
    rw [last (by simp [after]) early rfl rfl, counted (by simpa [x] using none), count]
    exact ⟨{ State.beginReset_resetTo (x.withRx .listen) .soft with }, rfl⟩

end Sys2Proof.Machine
end

section
/-! SUPPORT. The clash of a reply (O22), the two resets of Table 10-1 (O15), the header and its checks (O19). -/

namespace Sys2Proof.Machine

set_option Elab.async false

open Sys2Proof (Instr LinkUnit Bank)

/-! ## A clash -/

/-- The octet being sent, from the receive state's own clauses (R24). -/
theorem RxState.sending_of {rx : RxState} {r : Reply} {k before : Nat} {o : Octet}
    (h : (rx = .token r k ∧ r.token[k]? = some o ∧ before = k) ∨
      (∃ d, rx = .readData r k ∧ r.data = some d ∧ d[k]? = some o ∧ before = 3 + k)) :
    rx.sending = some (r, before, o) := by
  rcases h with ⟨rfl, octet, rfl⟩ | ⟨d, rfl, data, octet, rfl⟩
  · simp [RxState.sending, octet]
  · simp [RxState.sending, data, octet]

/-- The clash of a reply that nothing follows begins no timed count. -/
theorem State.noteBegun_loseClash {u : State} {r : Reply} (sent : Nat) (after : r.after = .nothing) :
    (u.loseClash r sent).noteBegun u = u.loseClash r sent := by
  have ctl : (u.loseClash r sent).ctl = u.ctl := by simp [State.loseClash, after, State.endReply, State.afterReply]
  have stl : (u.loseClash r sent).stl = u.stl := by simp [State.loseClash, after, State.endReply, State.afterReply]
  refine State.noteBegun_of_none fun c h => ?_
  cases c <;> simpa only [State.runs, ctl, stl] using h

/-- Settles O22: the bit's row at the octet being sent, by what follows the reply. -/
theorem clashEndsReply : Obligations.ClashEndsReply := by
  intro s bit r k before o octet u v
  have row : exec (.replyClash bit) s = if o.getMsbD bit.toNat then
      .next (((s.reach r.clashPlace).loseClash r before).noteBegun (s.reach r.clashPlace)) else .next s := by
    change execReplyClash bit s = _
    rw [execReplyClash, RxState.sending_of octet]
  refine ⟨fun lost after => ?_, fun lost after => ?_, fun lost after => ?_, fun kept => ?_⟩
  · rw [row, if_pos lost, show r.clashPlace = 70 from if_pos after, State.noteBegun_loseClash before after,
      State.loseClash, if_pos after, State.endReply, after, ← satInc_eight]
    rfl
  all_goals rw [row]
  · have ending : (v.loseClash r before).noteBegun v = v.goQuiet.noteBegun v := by
      rw [State.loseClash, after, if_neg (by decide), State.endReply, after]
      rfl
    rw [if_pos lost, show r.clashPlace = 10 from if_neg (by simp [after]), ending]
    exact ⟨_, rfl, rfl, rfl, rfl⟩
  · have ending : (v.loseClash r before).noteBegun v = ((v.withRx .listen).beginReset .soft).noteBegun v := by
      rw [State.loseClash, after, if_neg (by decide), State.endReply, after]
      rfl
    rw [if_pos lost, show r.clashPlace = 10 from if_neg (by simp [after]), ending]
    exact ⟨_, rfl, { State.beginReset_resetTo (v.withRx .listen) .soft with }⟩
  · rw [if_neg (by simp [kept])]

/-! ## Pin reset and link reset -/

/-- RSTN going low (R43). -/
theorem State.pinReset_resetTo (s : State) (power : Bool) : State.ResetTo .powerPin s (s.pinReset power) :=
  { State.beginReset_resetTo
      { s with
        ctl := { s.ctl with rstnLow := true, softStep := if power then none else s.ctl.softStep }
        link := { s.link with beacons := if power then 0 else s.link.beacons } } .powerPin with }

/-- What a unit does to the waits and octets of a request or reply (R3, R13). -/
theorem State.replyUnit_cases (s : State) (u : LinkUnit) :
    (∃ rx, s.replyUnit u = s.withRx rx) ∨ ∃ r, s.replyUnit u = s.endReply r := by
  unfold State.replyUnit
  split
  · rename_i r _
    split_ifs
    · exact .inl ⟨s.link.rx, rfl⟩
    · exact .inr ⟨r, rfl⟩
  · split_ifs
    · exact .inl ⟨s.link.rx, rfl⟩
    · exact .inl ⟨_, rfl⟩

/-- A pin or link reset that follows the unit's end of a reply leaves nothing of it. -/
theorem State.link_resetTo_replyUnit (v : State) (u : LinkUnit) (b : BitVec 8) :
    State.ResetTo .link v (((v.replyUnit u).withBeacons b).beginReset .link) := by
  have begun := ((v.replyUnit u).withBeacons b).beginReset_resetTo .link
  rcases v.replyUnit_cases u with ⟨rx, e⟩ | ⟨r, e⟩
  · rw [e] at begun ⊢
    exact { begun with }
  · rcases v.endReply_cases r with ⟨-, q⟩ | ⟨-, q⟩ | ⟨-, q⟩ <;> rw [e, q] at begun ⊢ <;> exact { begun with }

@[simp] theorem State.replyUnit_rstnLow (s : State) (u : LinkUnit) : (s.replyUnit u).ctl.rstnLow = s.ctl.rstnLow := by
  rcases s.replyUnit_cases u with ⟨rx, e⟩ | ⟨r, e⟩
  · rw [e]; rfl
  · rcases s.endReply_cases r with ⟨-, q⟩ | ⟨-, q⟩ | ⟨-, q⟩ <;> rw [e, q] <;> rfl

/-- The 64th BEACON of a run is a link reset whose cause holds on (R55). -/
theorem State.earlySteps_of_last {v : State} (last : v.link.beacons = 63) (mid : BitVec 4) :
    ∃ step now, let x := ((v.replyUnit .beacon).withBeacons 64).beginReset .link
      v.earlySteps .beacon mid = { x with ctl := { x.ctl with softStep := step }, now := now } := by
  have counted : (v.replyUnit .beacon).countBeacon = ((v.replyUnit .beacon).withBeacons 64).beginReset .link := by
    have run := (State.replyUnit_beacons v .beacon).trans last
    rcases (v.replyUnit .beacon).countBeacon_cases with ⟨-, e⟩ | ⟨other, -⟩
    · rw [e, run]; rfl
    · exact absurd run other
  rw [State.earlySteps_beacon, counted]
  obtain ⟨x, hx⟩ : ∃ x, ((v.replyUnit .beacon).withBeacons 64).beginReset .link = x := ⟨_, rfl⟩
  have sixtyFour : x.link.beacons = 64 := hx ▸ rfl
  rw [hx]
  rcases x.endCauses_cases .beacon mid with ⟨-, e⟩ | ⟨-, -, e⟩
  · rw [e, State.tryLeaveReset_of_held (by simp [State.resetHeld, sixtyFour])]
    exact ⟨if x.ctl.softStep = some 0 then none else x.ctl.softStep, x.now.map (·.upTo 13), by
      simp only [ne_eq, not_true_eq_false, false_and, if_false]
      rfl⟩
  · exact ⟨x.ctl.softStep, x.now, e⟩

theorem exec_beaconUnit (s : State) : exec .beaconUnit s = .next (s.receive .beacon s.freeMid) := rfl

/-- Settles O15: the reset of each row, on the state at its place. -/
theorem pinAndLinkResetApplyTable : Obligations.PinAndLinkResetApplyTable := by
  refine ⟨fun power s => ⟨(s.reach 11).pinReset power, rfl, State.pinReset_resetTo _ power, rfl, ?_, ?_⟩,
    fun s last => ?_⟩
  · change (if power then 0 else (s.reach 11).link.beacons) = _
    rw [State.reach_beacons]
  · change (if power then none else (s.reach 11).ctl.softStep) = _
    rw [State.reach_softStep]
  · have place : s.unitPlace .beacon = 10 := if_pos ⟨rfl, last⟩
    obtain ⟨v, hv⟩ : ∃ v, s.openUnit 10 = v := ⟨_, rfl⟩
    have run : v.link.beacons = 63 := by rw [← hv, State.openUnit_beacons, last]
    have low : v.ctl.rstnLow = s.ctl.rstnLow := by rw [← hv, State.openUnit_rstnLow]
    obtain ⟨step, now, early⟩ := State.earlySteps_of_last run s.freeMid
    have reset := v.link_resetTo_replyUnit .beacon 64
    have row : exec .beaconUnit s = .next (v.earlySteps .beacon s.freeMid) := by
      rw [exec_beaconUnit, State.receive, State.unit, place, hv, State.linkStep_beacon_of_listen (by rw [early]; rfl)]
    rw [row, early, hv]
    exact ⟨_, rfl, { reset with }, rfl, (v.replyUnit_rstnLow .beacon).trans low⟩

/-! ## The two checks and the fields of a header -/

/-- A check register takes the bits of a value in the order sent. -/
theorem foldl_bitsMsbFirst {n m : Nat} (poly reg : BitVec m) (x : BitVec n) :
    (bitsMsbFirst x).foldl (crcBit poly) reg =
      (List.range n).foldl (fun (r : BitVec m) k => if r.msb ≠ x.getMsbD k then (r <<< 1) ^^^ poly else r <<< 1) reg := by
  rw [bitsMsbFirst, List.foldl_map]
  congr 1
  funext r k
  simp [crcBit]

theorem headerCheck_eq (o : BitVec 64) : headerCheck o =
    (List.range 56).foldl (fun (r : BitVec 8) k => if r.msb ≠ o.getMsbD k then (r <<< 1) ^^^ 0x07 else r <<< 1) 0 := by
  rw [headerCheck, foldl_bitsMsbFirst]
  refine List.foldl_ext _ _ _ fun r k hk => ?_
  have inside : k < 56 := List.mem_range.1 hk
  have bit : (o.extractLsb' 8 56).getMsbD k = o.getMsbD k := by
    simp only [BitVec.getMsbD, BitVec.getLsbD_extractLsb', inside, decide_true, Bool.true_and,
      show 56 - 1 - k < 56 by omega, show k < 64 by omega, show 8 + (56 - 1 - k) = 64 - 1 - k by omega]
  rw [bit]
  rfl

theorem dataCheck_append_singleton (ws : List Word) (w : Word) : dataCheck (ws ++ [w]) =
    (List.range 32).foldl (fun (r : BitVec 16) k => if r.msb ≠ w.getMsbD k then (r <<< 1) ^^^ 0x1021 else r <<< 1)
      (dataCheck ws) := by
  rw [dataCheck, List.flatMap_append, List.foldl_append, List.flatMap_singleton, foldl_bitsMsbFirst]
  rfl

theorem Addressing.code_ofCode (c : BitVec 2) : (Addressing.ofCode c).code = c := by
  revert c; decide

theorem Command.code_ofCode (c : BitVec 3) : (Command.ofCode c).code = c := by
  revert c; decide

/-- The requests that are addressed to the node (R15, R31). -/
theorem Ident.addressed_iff (i : Ident) (h : Header) :
    i.addressed h = true ↔ (h.addressing = .direct ∧ i.nodeId ≠ 0 ∧ h.dest = i.nodeId) ∨ h.addressing = .broadcast ∨
      (h.addressing = .chainHead ∧ i.chi = true ∧ i.nodeId = 0) := by
  unfold Ident.addressed
  cases h.addressing <;> simp [Ident.named, Ident.chainHead]

/-- Settles O19: the folds, the fields, and the three ways a header is judged. -/
theorem headerJudgedAtItsEnd : Obligations.HeaderJudgedAtItsEnd := by
  refine ⟨⟨headerCheck_eq, rfl, dataCheck_append_singleton⟩, ?_, rfl, rfl, ?_⟩
  · intro o1 o2 o3 o4 o5 o6 o7 o8 h
    simp only [h, Header.parse, Addressing.code_ofCode, Command.code_ofCode]
    refine ⟨?_, ?_, ?_, ?_, ?_, ?_, ?_, ?_⟩ <;> refine BitVec.eq_of_getLsbD_eq fun i hi => ?_
    all_goals
      simp only [BitVec.getLsbD_extractLsb', BitVec.getLsbD_append, hi, decide_true, Bool.true_and]
      split_ifs <;> first | omega | (simp only [*, decide_true, Bool.true_and]; congr 1; omega) | (congr 1; omega)
  · intro o s k rx u h
    have row : exec (.headerReceived o) s = .next (u.judgeHeader o) := by
      change execHeaderReceived o s = _
      unfold execHeaderReceived
      rw [rx]
    rw [row]
    refine ⟨fun fails => ?_, fun holds mine => ?_, fun holds other => ?_⟩
    · rw [State.judgeHeader, if_pos fails, ← satInc_eight]
      rfl
    · rw [State.judgeHeader, if_neg (not_not.2 holds), if_pos ((Ident.addressed_iff _ _).2 mine)]
    · rw [State.judgeHeader, if_neg (not_not.2 holds), if_neg fun mine => ?_]
      rcases (Ident.addressed_iff _ _).1 mine with ⟨direct, named, here⟩ | broadcast | ⟨chain, head, unnamed⟩
      · rcases other with ⟨-, unnamed | elsewhere⟩ | e | ⟨e, -⟩
        · exact named unnamed
        · exact elsewhere here
        all_goals exact nomatch direct.symm.trans e
      · rcases other with ⟨e, -⟩ | e | ⟨e, -⟩ <;> exact nomatch broadcast.symm.trans e
      · rcases other with ⟨e, -⟩ | e | ⟨-, low | named⟩
        iterate 2 exact nomatch chain.symm.trans e
        · simp [head] at low
        · exact named unnamed

end Sys2Proof.Machine
end

section
/-! SUPPORT. The end of RESET (O17), and link units that pass one by one while the link interface is in LISTEN. -/

namespace Sys2Proof.Machine

set_option Elab.async false

open Sys2Proof (Instr LinkUnit Bank)

section
variable {s v : State} {u : LinkUnit} {mid : BitVec 4}

/-! ## The unit that ends a reset cause -/

/-- The node when the unit's reset causes have ended: out of RESET when none is left (R44). -/
def State.afterCauses (v : State) (u : LinkUnit) (mid : BitVec 4) : State :=
  ((v.causesEnded u).tryLeaveReset mid).atPlace 13

/-- With no cause left a test begins (R44). -/
theorem State.afterCauses_of_free (reset : v.ctl.mode = .reset) (free : (v.causesEnded u).resetHeld = false) :
    v.afterCauses u mid = ((v.causesEnded u).testBegun (v.cap.releaseFeeds mid)).atPlace 13 := by
  rcases (v.causesEnded u).tryLeaveReset_cases mid with ⟨-, -, e⟩ | ⟨awake | held, -⟩
  · rw [State.afterCauses, e]
    rfl
  · exact absurd reset awake
  · simp [free] at held

/-- With another cause the node stays in RESET (R44). -/
theorem State.afterCauses_of_held (held : (v.causesEnded u).resetHeld = true) :
    v.afterCauses u mid = (v.causesEnded u).atPlace 13 := by
  rw [State.afterCauses, State.tryLeaveReset_of_held held]

@[simp] theorem State.afterCauses_link (v : State) (u : LinkUnit) (mid : BitVec 4) :
    (v.afterCauses u mid).link = (v.causesEnded u).link :=
  State.tryLeaveReset_link _ mid

/-- The beacon counter of a unit that ends a reset cause and no other run: a BEACON is counted (R54). -/
theorem State.earlySteps_of_causeEnds (listen : v.link.rx = .listen)
    (ends : (u ≠ .beacon ∧ 64 ≤ v.link.beacons.toNat) ∨ v.ctl.softStep = some 0)
    (run : u ≠ .beacon → 64 ≤ v.link.beacons.toNat ∨ v.link.beacons = 0) (last : v.link.beacons ≠ 63) :
    v.earlySteps u mid = (v.withBeacons (countedBy u v.link.beacons)).afterCauses u mid := by
  have caused (w : State) (ends : (u ≠ .beacon ∧ 64 ≤ w.link.beacons.toNat) ∨ w.ctl.softStep = some 0) :
      w.endCauses u mid = w.afterCauses u mid := by
    rw [State.endCauses_eq, if_pos ends]
    rfl
  by_cases beacon : u = .beacon
  · subst beacon
    have step : v.ctl.softStep = some 0 := ends.resolve_left fun h => h.1 rfl
    rw [State.earlySteps_beacon, State.replyUnit_of_listen listen]
    have counted : v.countBeacon = v.withBeacons (satInc v.link.beacons) := by
      rcases v.countBeacon_cases with ⟨e, -⟩ | ⟨-, e⟩
      · exact absurd e last
      · exact e
    rw [counted, caused (v.withBeacons (satInc v.link.beacons)) (.inr step)]
    rfl
  · have ended : (v.endCauses u mid).link.beacons = 0 := by
      rw [caused v ends, State.afterCauses_link]
      change (if u ≠ .beacon ∧ 64 ≤ v.link.beacons.toNat then 0 else v.link.beacons) = 0
      split_ifs with h
      · rfl
      · exact (run beacon).resolve_left fun long => h ⟨beacon, long⟩
    rw [countedBy, if_neg beacon, State.withBeacons_self, ← caused v ends]
    simp [State.earlySteps, State.replyUnit_of_listen listen, beacon, ended]

/-- A unit that ends a reset cause is received at step 1, and framed in the state that follows (R44). -/
theorem State.receive_of_causeEnds (listen : s.link.rx = .listen) (place : s.unitPlace u = 13)
    (opened : s.openUnit 13 = v)
    (ends : (u ≠ .beacon ∧ 64 ≤ v.link.beacons.toNat) ∨ v.ctl.softStep = some 0)
    (run : u ≠ .beacon → 64 ≤ v.link.beacons.toNat ∨ v.link.beacons = 0) (last : v.link.beacons ≠ 63) :
    s.receive u mid = ((v.withBeacons (countedBy u v.link.beacons)).afterCauses u mid).framing u := by
  have rx : v.link.rx = .listen := by rw [← opened, State.openUnit_rx (by rw [listen]; rfl), listen]
  rw [State.receive, place, State.unit, opened, State.earlySteps_of_causeEnds rx ends run last,
    State.linkStep_of_listen (by rw [State.afterCauses_link]; exact rx) u (by decide)]

/-- The place of a unit that ends a link reset's run or a soft reset's step, and is not the 64th BEACON (R60). -/
theorem State.unitPlace_thirteen (last : u = .beacon → s.link.beacons ≠ 63)
    (ends : (u ≠ .beacon ∧ 64 ≤ s.link.beacons.toNat) ∨ ∃ n ≤ 1, s.ctl.softStep = some n) : s.unitPlace u = 13 := by
  unfold State.unitPlace
  rw [if_neg fun h => last h.1 h.2, if_pos]
  rcases ends with long | ⟨n, one, step⟩
  · exact .inl long
  · exact .inr (by simp [step, one])

/-- A soft reset's step whose last unit has been counted had at most one to come. -/
theorem State.softStep_of_openUnit {p : Nat} (last : (s.openUnit p).ctl.softStep = some 0) :
    ∃ n ≤ 1, s.ctl.softStep = some n := by
  have counted (x : State) (m : Moment) (h : (x.ctl.countUnit m).softStep = some 0) :
      ∃ n ≤ 1, x.ctl.softStep = some n := by
    unfold Control.countUnit at h
    split_ifs at h
    · cases step : x.ctl.softStep with
      | none => simp [step] at h
      | some n => exact ⟨n, by simp [step] at h; omega, rfl⟩
    · exact ⟨0, by omega, h⟩
  rcases s.openUnit_cases p with ⟨m, -, -, e⟩ | ⟨-, e⟩ <;> rw [e] at last
  · exact counted s m last
  · have := counted s.close _ last
    rwa [State.close_softStep] at this

/-! ## Link units that pass in LISTEN -/

/-- `t` is `s` but for what the log writer, the page opens, the frame watch and ALERTN do at the end of an instant. -/
structure State.Rests (s t : State) : Prop where
  link : t.link = s.link
  ident : t.ident = s.ident
  ctl : t.ctl = s.ctl
  cap : t.cap = s.cap
  sct : t.sct = s.sct
  ste : t.ste = s.ste
  user : t.user = s.user

theorem State.endPhaseIfDone_of_not (phase : s.ste.phaseDone = false) (failed : List FailedWord) :
    s.endPhaseIfDone failed = s := by
  simp [State.endPhaseIfDone, phase]

/-- In LISTEN, with no phase at its end, the node's own events are the writer's, the page opens and the frame watch. -/
theorem State.takeOwn_of_listen {p : Nat} (listen : s.link.rx = .listen) (phase : p ≤ 83 ∨ s.ste.phaseDone = false) :
    s.takeOwn p =
      let s1 := if 60 < p then s.writerStep else s
      let s3 := if 80 < p then s1.completeOpen .bank0 else s1
      let s4 := if 81 < p then s3.completeOpen .bank1 else s3
      if 82 < p then s4.expireWatch else s4 := by
  have ending (x : State) (h : x.ste = s.ste) : (if 83 < p then x.endPhaseIfDone [] else x) = x := by
    rcases phase with early | done
    · rw [if_neg (by omega)]
    · rw [State.endPhaseIfDone_of_not (by rw [h, done]), ite_self]
  rw [State.takeOwn, ending _ (by simp [apply_ite State.ste]),
    State.judgeWaiting_of_listen (by simpa [apply_ite State.link] using listen), ite_self]

theorem State.takeOwn_ninety_of_listen (listen : s.link.rx = .listen) (phase : s.ste.phaseDone = false) :
    s.takeOwn 90 = ((s.writerStep.completeOpen .bank0).completeOpen .bank1).expireWatch :=
  State.takeOwn_of_listen listen (.inr phase)

theorem State.takeOwn_rests {p : Nat} (listen : s.link.rx = .listen) (phase : p ≤ 83 ∨ s.ste.phaseDone = false) :
    s.Rests (s.takeOwn p) := by
  rw [State.takeOwn_of_listen listen phase]
  constructor <;> simp [apply_ite State.link, apply_ite State.ident, apply_ite State.ctl, apply_ite State.cap,
    apply_ite State.sct, apply_ite State.ste, apply_ite State.user]

theorem State.close_rests (listen : s.link.rx = .listen) (phase : s.ste.phaseDone = false) : s.Rests s.close := by
  rcases s.close_cases with ⟨-, e⟩ | ⟨m, -, e⟩ <;> rw [e]
  · exact ⟨rfl, rfl, rfl, rfl, rfl, rfl, rfl⟩
  · exact { State.takeOwn_rests (p := 90) listen (.inr phase) with }

/-- The instant at which a unit passes: the open one, or one of its own; no timed count has begun at it. -/
theorem State.openUnit_forUnit (s : State) (p : Nat) :
    ∃ x m, (x = s ∧ s.now = some m ∧ m.awaits 70 = true ∨ x = s.close ∧ m = Moment.fresh 10) ∧ m.begun = [] ∧
      s.forUnit.openUnit p = x.endUnit m := by
  rcases s.forUnit_cases with ⟨m, now, awaits, begun, e⟩ | ⟨-, e⟩ <;> rw [e]
  · rcases s.openUnit_cases p with ⟨m', now', -, e⟩ | ⟨-, e⟩ <;> rw [e]
    · obtain rfl : m = m' := Option.some.inj (now.symm.trans now')
      exact ⟨s, m, .inl ⟨rfl, now, awaits⟩, begun, rfl⟩
    · exact ⟨s.close, _, .inr ⟨rfl, rfl⟩, rfl, rfl⟩
  · have shut : s.close.close = s.close := State.close_of_shut s.close_now
    rcases s.close.openUnit_cases p with ⟨m', now', -, -⟩ | ⟨-, e⟩
    · simp at now'
    · rw [e, shut]
      exact ⟨s.close, _, .inr ⟨rfl, rfl⟩, rfl, rfl⟩

/-- The run that a unit other than BEACON ends (R54). -/
def State.afterRun (v : State) : State := if v.link.beacons ≠ 0 then v.endRun else v

/-- In LISTEN an IDLE passes, which ends a beacon run and reset causes, and nothing else. -/
theorem State.passUnit_of_listen (listen : s.link.rx = .listen) (mid : BitVec 4) :
    ∃ x m, (x = s ∧ s.now = some m ∧ m.awaits 70 = true ∨ x = s.close ∧ m = Moment.fresh 10) ∧ m.begun = [] ∧
      s.passUnit mid = ((x.endUnit m).endCauses .idle mid).afterRun := by
  have rx : s.forUnit.link.rx = .listen := by rw [State.forUnit_rx (by rw [listen]; rfl), listen]
  obtain ⟨x, m, from_, begun, opened⟩ := s.openUnit_forUnit (s.forUnit.unitPlace .idle)
  refine ⟨x, m, from_, begun, ?_⟩
  have opens : (x.endUnit m).link.rx = .listen := by
    rw [← opened, State.openUnit_rx (by rw [rx]; rfl), rx]
  have caused : ((x.endUnit m).endCauses .idle mid).link.rx = .listen := by
    rcases (x.endUnit m).endCauses_cases .idle mid with ⟨-, e⟩ | ⟨-, -, e⟩ <;> rw [e]
    · simpa using opens
    · exact opens
  have unlinked (y : State) (h : y.link.rx = .listen) (p : Nat) : y.linkStep .idle p = y := by
    simp [State.linkStep, h, RxState.cutBy, RxState.inRequest]
  rcases s.passUnit_cases mid with ⟨stalled, -⟩ | ⟨-, e⟩
  · rw [rx] at stalled
    exact nomatch stalled
  · have early : (x.endUnit m).earlySteps .idle mid = ((x.endUnit m).endCauses .idle mid).afterRun := by
      simp [State.earlySteps, State.replyUnit_of_listen opens, State.afterRun]
    have still : ((x.endUnit m).endCauses .idle mid).afterRun.link.rx = .listen := by
      unfold State.afterRun
      split_ifs
      · rw [State.endRun_rx, caused]
      · exact caused
    rw [e, rx, State.receive, State.unit, show RxState.listen.filler = .idle from rfl, opened, early, unlinked _ still]

/-- A run that ends outside RESET or in it keeps every block but the link's counter, the event queue and the mode. -/
theorem State.afterRun_reset (reset : v.ctl.mode = .reset ∨ v.ctl.mode = .selftest) :
    v.afterRun.ctl = v.ctl ∧ v.afterRun.cap = v.cap ∧ v.afterRun.ste = v.ste ∧
      v.afterRun.link = { v.link with beacons := 0 } := by
  unfold State.afterRun
  split_ifs with run
  · rw [State.endRun_of_ignored (fun quiet => ?_) (fun mode => ?_)]
    · exact ⟨rfl, rfl, rfl, rfl⟩
    · rcases reset with e | e <;> exact nomatch e.symm.trans quiet
    · rcases reset with e | e <;> rcases mode with q | q <;> exact nomatch e.symm.trans q
  · rw [not_not] at run
    exact ⟨rfl, rfl, rfl, by rw [← run]⟩

/-! ## The end of a soft reset's step -/

/-- `x` is the node `s` in the soft reset's step with `n` units to come (R163). -/
structure State.SoftHeld (s : State) (n : Nat) (x : State) : Prop where
  mode : x.ctl.mode = .reset
  listen : x.link.rx = .listen
  phase : x.ste.phase = .idle
  step : x.ctl.softStep = some n
  low : x.ctl.rstnLow = s.ctl.rstnLow
  cap : x.cap = s.cap
  cfg : x.link.cfg = s.link.cfg

/-- A unit of the step has been counted. -/
theorem State.SoftHeld.counted {n : Nat} {x y : State} {m : Moment} (h : s.SoftHeld (n + 1) x)
    (from_ : y = x ∨ y = x.close) (begun : m.begun = []) :
    s.SoftHeld n (y.endUnit m) ∧ (y.endUnit m).link.units = x.link.units + 1 := by
  have rests : x.Rests y := by
    rcases from_ with rfl | rfl
    · exact ⟨rfl, rfl, rfl, rfl, rfl, rfl, rfl⟩
    · exact x.close_rests h.listen (by simp [SelfTest.phaseDone, h.phase])
  have counts : m.counts .softStep = true := (m.counts_iff _).2 (by simp [begun])
  obtain ⟨link, -, ctl, cap, -, ste, -⟩ := rests
  refine ⟨⟨?_, ?_, ?_, ?_, ?_, ?_, ?_⟩, ?_⟩
  · exact (congrArg Control.mode ctl).trans h.mode
  · simp [link, h.listen]
  · simp [SelfTest.countUnit, ste, h.phase]
  · simp [Control.countUnit, counts, ctl, h.step]
  · simp [Control.countUnit, ctl, h.low]
  · simp [cap, h.cap]
  · simp [link, h.cfg]
  · simp [link]

/-- A unit of the step that is not its last leaves the node in RESET (R163). -/
theorem State.SoftHeld.passUnit {n : Nat} {x : State} (h : s.SoftHeld (n + 2) x) (mid : BitVec 4) :
    s.SoftHeld (n + 1) (x.passUnit mid) ∧ (x.passUnit mid).link.units = x.link.units + 1 := by
  obtain ⟨y, m, from_, begun, e⟩ := State.passUnit_of_listen h.listen mid
  obtain ⟨held, units⟩ := h.counted (from_.imp (·.1) (·.1)) begun
  obtain ⟨w, hw⟩ : ∃ w, y.endUnit m = w := ⟨_, rfl⟩
  rw [hw] at held units e
  obtain ⟨now, causes⟩ := State.endCauses_of_stays (s := w) (u := .idle)
    (.inr (by simp [State.resetHeld, State.causesEnded, held.step])) mid
  obtain ⟨z, hz⟩ : ∃ z : State, { w.causesEnded .idle with now := now } = z := ⟨_, rfl⟩
  have stays : s.SoftHeld (n + 1) z := by
    rw [← hz]
    exact { held with step := (if_neg (by simp [held.step])).trans held.step }
  have same : z.link.units = w.link.units := hz ▸ rfl
  obtain ⟨ctl, cap, ste, link⟩ := State.afterRun_reset (.inl stays.mode)
  rw [e, causes, hz]
  exact ⟨⟨by rw [ctl, stays.mode], by rw [link]; exact stays.listen, by rw [ste, stays.phase], by rw [ctl, stays.step],
    by rw [ctl, stays.low], by rw [cap, stays.cap], by rw [link]; exact stays.cfg⟩, by rw [link]; exact same.trans units⟩

/-- `t` is the node `s` when the soft reset's step has ended (R44, R163). -/
structure State.SoftEnded (s : State) (mid : BitVec 4) (t : State) : Prop where
  step : t.ctl.softStep = none
  held : s.ctl.rstnLow = true → t.ctl.mode = .reset
  free : s.ctl.rstnLow = false → t.ctl.mode = .selftest ∧ t.ctl.testPassed = false ∧ s.cap.Released t.cap mid ∧
    t.ste =
      { signature := 0x7E570000, fails := 0, phase := .s1, address := 0, units := 0
        savedLinkCfg := s.link.cfg, storeFaults := [] }

/-- The last unit of the step ends the soft reset's cause (R163). -/
theorem State.SoftHeld.ends {x : State} (h : s.SoftHeld 1 x) (mid : BitVec 4) :
    s.SoftEnded mid (x.passUnit mid) ∧ (x.passUnit mid).link.units = x.link.units + 1 := by
  obtain ⟨y, m, from_, begun, e⟩ := State.passUnit_of_listen h.listen mid
  obtain ⟨held, units⟩ := h.counted (from_.imp (·.1) (·.1)) begun
  obtain ⟨w, hw⟩ : ∃ w, y.endUnit m = w := ⟨_, rfl⟩
  rw [hw] at held units e
  have causes : w.endCauses .idle mid = w.afterCauses .idle mid := by
    rw [State.endCauses_eq, if_pos (.inr held.step)]
    rfl
  have run : (w.causesEnded .idle).link.beacons.toNat < 64 := by
    change (if LinkUnit.idle ≠ .beacon ∧ 64 ≤ w.link.beacons.toNat then 0 else w.link.beacons).toNat < 64
    split_ifs with long
    · decide
    · exact not_le.1 fun h => long ⟨by decide, h⟩
  have step : (w.causesEnded .idle).ctl.softStep = none := if_pos held.step
  rw [e, causes]
  cases low : s.ctl.rstnLow with
  | true =>
    have stays : (w.causesEnded .idle).resetHeld = true := by
      simp [State.resetHeld, show (w.causesEnded .idle).ctl.rstnLow = true from held.low.trans low]
    rw [State.afterCauses_of_held stays]
    obtain ⟨ctl, -, -, link⟩ := State.afterRun_reset (v := (w.causesEnded .idle).atPlace 13) (.inl held.mode)
    refine ⟨⟨by rw [ctl]; exact step, fun _ => by rw [ctl]; exact held.mode, fun h => ?_⟩, by rw [link]; exact units⟩
    exact nomatch low.symm.trans h
  | false =>
    have free : (w.causesEnded .idle).resetHeld = false := by
      simp [State.resetHeld, show (w.causesEnded .idle).ctl.rstnLow = false from held.low.trans low, step, run]
    rw [State.afterCauses_of_free held.mode free]
    obtain ⟨ctl, cap, ste, link⟩ := State.afterRun_reset
      (v := ((w.causesEnded .idle).testBegun (w.cap.releaseFeeds mid)).atPlace 13) (.inr rfl)
    refine ⟨⟨by rw [ctl]; exact step, fun h => ?_, fun _ => ⟨by rw [ctl]; rfl, by rw [ctl]; rfl, ?_, ?_⟩⟩,
      by rw [link]; exact units⟩
    · exact nomatch low.symm.trans h
    · rw [cap, ← held.cap]
      exact w.cap.releaseFeeds_released mid
    · rw [ste, ← held.cfg]
      rfl

/-- The units of a soft reset's step pass one by one (R163, log entry 3). -/
theorem State.SoftHeld.passWhile {n : Nat} {x : State} (h : s.SoftHeld (n + 1) x) (mid : BitVec 4) :
    let t := State.passWhile (·.ctl.softStep.isSome) mid (n + 1) x
    s.SoftEnded mid t ∧ t.link.units = x.link.units + (n + 1) := by
  have goes : x.ctl.softStep.isSome = true := by rw [h.step]; rfl
  induction n generalizing x with
  | zero =>
    simp only [State.passWhile, goes, if_true]
    exact h.ends mid
  | succ n ih =>
    obtain ⟨held, units⟩ := h.passUnit mid
    have rest := ih held (by rw [held.step]; rfl)
    rw [State.passWhile, if_pos goes]
    exact ⟨rest.1, by rw [rest.2, units]; omega⟩

/-! ## The end of RESET -/

theorem exec_startUnit (mid : BitVec 4) (s : State) : exec (.startUnit mid) s = .next (s.receive .start mid) := rfl

/-! ## The statement -/

/-- The framing of the unit that ended the last reset cause, in SELFTEST (R3). -/
theorem State.framing_testBegun (x : State) (cap : Capture) (listen : x.link.rx = .listen) (u : LinkUnit) :
    ((x.testBegun cap).atPlace 13).framing u =
      ((x.testBegun cap).atPlace 13).withRx (if u = .start then .header 0 else .listen) := by
  rw [State.framing_of_frames rfl]
  split_ifs
  · rfl
  · exact congrArg ((x.testBegun cap).atPlace 13).withRx listen

/-- In RESET no unit is framed (R3). -/
theorem State.framing_of_reset (reset : v.ctl.mode = .reset) (u : LinkUnit) : v.framing u = v := by
  simp [State.framing, State.beginRequest, reset, Mode.frames]

/-- RSTN goes high with no other cause: a test begins, which counts from the next instant (R44, log entry 28). -/
theorem State.pinRelease_free {w : State} (reset : w.ctl.mode = .reset) (low : w.ctl.rstnLow = true)
    (short : w.link.beacons.toNat < 64) (step : w.ctl.softStep = none) :
    (w.pinRelease mid).noteBegun w =
      { State.testBegun { w with ctl := { w.ctl with rstnLow := false } } (w.cap.releaseFeeds mid) with
        now := w.now.map (fun m => { m with begun := m.begun ++ [.phase] }) } := by
  obtain ⟨r, hr⟩ : ∃ r : State, { w with ctl := { w.ctl with rstnLow := false } } = r := ⟨_, rfl⟩
  have free : r.resetHeld = false := by
    rw [← hr]
    simp [State.resetHeld, step, short]
  have begun : w.pinRelease mid = r.testBegun (w.cap.releaseFeeds mid) := by
    rw [State.pinRelease, if_pos low, hr]
    rcases r.tryLeaveReset_cases mid with ⟨-, -, e⟩ | ⟨awake | held, -⟩
    · rw [e, ← hr]
    · exact absurd (hr ▸ reset) awake
    · simp [free] at held
  rw [begun, hr, State.noteBegun]
  have counts : [TimedCount.opening .bank0, .opening .bank1, .softStep, .phase].filter
      (fun c => (r.testBegun (w.cap.releaseFeeds mid)).runs c && !w.runs c) = [.phase] := by
    rw [← hr]
    simp [State.runs, State.testBegun, reset, step]
  rw [counts, ← hr]
  rfl

/-- RSTN goes high while another cause holds: the node stays in RESET (R44). -/
theorem State.pinRelease_held {w : State} (low : w.ctl.rstnLow = true) (reset : w.ctl.mode = .reset)
    (held : 64 ≤ w.link.beacons.toNat ∨ w.ctl.softStep ≠ none) :
    (w.pinRelease mid).noteBegun w = { w with ctl := { w.ctl with rstnLow := false } } := by
  have stays : w.pinRelease mid = { w with ctl := { w.ctl with rstnLow := false } } := by
    rw [State.pinRelease, if_pos low, State.tryLeaveReset_of_held]
    rcases held with long | step
    · simp [State.resetHeld, long]
    · simp [State.resetHeld, Option.isSome_iff_ne_none, step]
  rw [stays, State.noteBegun_of_none]
  intro c runs
  cases c with
  | phase => simp [State.runs, reset] at runs
  | _ => exact runs

theorem toNat_satInc_eight (x : BitVec 8) : (satInc x).toNat = min (x.toNat + 1) 255 := by
  rw [satInc_eight]
  split_ifs with full
  · simp [full]
  · have : x.toNat ≠ 255 := fun e => full (BitVec.eq_of_toNat_eq e)
    have := x.isLt
    rw [BitVec.toNat_add, show BitVec.toNat (1 : BitVec 8) = 1 from rfl, Nat.mod_eq_of_lt (by omega)]
    omega

/-- Settles O17: the unit at step 1 that ends the last cause, RSTN going high, and the units of a soft reset's step. -/
theorem lastResetCauseEndsReset : Obligations.LastResetCauseEndsReset := by
  refine ⟨?_, ?_, ?_, ?_⟩
  · intro u mid s other listen long v r reset
    have place : s.unitPlace u = 13 := State.unitPlace_thirteen (fun e => absurd e other) (.inl ⟨other, long⟩)
    have run : 64 ≤ v.link.beacons.toNat := by rw [State.openUnit_beacons]; exact long
    have rx : v.link.rx = .listen := by rw [State.openUnit_rx (by rw [listen]; rfl), listen]
    have row : exec (.beaconRunEnd u mid) s = .next ((v.afterCauses u mid).framing u) := by
      rw [exec_beaconRunEnd other (fun zero => by simp [zero] at long),
        State.receive_of_causeEnds listen place rfl (.inl ⟨other, run⟩) (fun _ => .inl run)
          (fun last => by rw [show v.link.beacons = 63 from last] at run; exact absurd run (by decide)), countedBy, if_neg other]
      rfl
    have ended : (v.causesEnded u).atPlace 13 = r := by
      rw [State.causesEnded, if_pos ⟨other, run⟩]
      rfl
    have zero : (v.causesEnded u).link.beacons = 0 := if_pos ⟨other, run⟩
    rw [row]
    refine ⟨fun high step => ⟨v.cap.releaseFeeds mid, v.cap.releaseFeeds_released mid, ?_⟩, fun held => ?_⟩
    · have free : (v.causesEnded u).resetHeld = false := by
        have none : (v.causesEnded u).ctl.softStep = none := by
          change (if v.ctl.softStep = some 0 then none else v.ctl.softStep) = none
          rcases step with e | e <;> simp [e]
        simp [State.resetHeld, zero, none, show (v.causesEnded u).ctl.rstnLow = false from high]
      rw [State.afterCauses_of_free reset free, State.framing_testBegun _ _ (by exact rx), ← ended]
      rfl
    · have stays : (v.causesEnded u).resetHeld = true := by
        rcases held with low | ⟨some_, other⟩
        · simp [State.resetHeld, show (v.causesEnded u).ctl.rstnLow = true from low]
        · have step : (v.causesEnded u).ctl.softStep = v.ctl.softStep := if_neg other
          simp [State.resetHeld, step, Option.isSome_iff_ne_none, some_]
      rw [State.afterCauses_of_held stays, ended, State.framing_of_reset (by exact reset)]
  · intro mid s w r reset low
    refine ⟨fun short step => ⟨w.cap.releaseFeeds mid, w.cap.releaseFeeds_released mid, ?_⟩, fun held => ?_⟩
    · exact congrArg _ (State.pinRelease_free reset low short step)
    · exact congrArg _ (State.pinRelease_held low reset held)
  · intro mid s n consistent step one
    obtain ⟨k, rfl⟩ : ∃ k, n = k + 1 := ⟨n - 1, by omega⟩
    have reset : s.ctl.mode = .reset := consistent.held.2 (by simp [State.resetHeld, step])
    have idle : s.ste.phase = .idle := by
      by_contra runs
      exact nomatch reset.symm.trans (consistent.testing.1 runs)
    have held : s.SoftHeld (k + 1) s := ⟨reset, consistent.listening (.inl reset), idle, step, rfl, rfl, rfl⟩
    obtain ⟨ended, units⟩ := held.passWhile mid
    have row : exec (.softResetStepDone mid) s = .next (State.passWhile (·.ctl.softStep.isSome) mid (k + 1) s) := by
      change execSoftResetStepDone mid s = _
      rw [execSoftResetStepDone, step]
    exact ⟨_, row, ended.step, units, ended.held, ended.free⟩
  · intro mid s listen v r b reset step
    have rx : v.link.rx = .listen := by rw [State.openUnit_rx (by rw [listen]; rfl), listen]
    have beacons : v.link.beacons = s.link.beacons := State.openUnit_beacons ..
    have place (u : LinkUnit) (last : u = .beacon → s.link.beacons ≠ 63) : s.unitPlace u = 13 :=
      State.unitPlace_thirteen last (.inr (State.softStep_of_openUnit step))
    have caused (x : BitVec 8) (u : LinkUnit) (short : u = .beacon ∨ x.toNat < 64) :
        ((v.withBeacons x).causesEnded u).atPlace 13 = r.withBeacons x := by
      rw [State.causesEnded, if_pos (show (v.withBeacons x).ctl.softStep = some 0 from step),
        if_neg fun h => by rcases short with e | lt; exacts [h.1 e, absurd h.2 (not_le.2 lt)]]
      rfl
    have free (x : BitVec 8) (high : v.ctl.rstnLow = false) (short : x.toNat < 64) (u : LinkUnit) (mid : BitVec 4) :
        (v.withBeacons x).afterCauses u mid = (r.withBeacons x).testBegun (v.cap.releaseFeeds mid) := by
      have least : ¬(u ≠ .beacon ∧ 64 ≤ (v.withBeacons x).link.beacons.toNat) := fun h => absurd h.2 (not_le.2 short)
      rw [State.afterCauses_of_free (by exact reset), ← caused x u (.inr short)]
      · rfl
      · rw [State.causesEnded, if_neg least, if_pos (by exact step)]
        simp only [State.resetHeld, State.withBeacons, high, Bool.false_or, Option.isSome_none, Bool.or_false]
        exact decide_eq_false (not_le.2 short)
    have held (x : BitVec 8) (u : LinkUnit) (mid : BitVec 4) (short : u = .beacon ∨ x.toNat < 64)
        (other : v.ctl.rstnLow = true ∨ u = .beacon ∧ 64 ≤ x.toNat) : (v.withBeacons x).afterCauses u mid = r.withBeacons x := by
      rw [State.afterCauses_of_held, caused x u short]
      rcases other with low | ⟨beacon, long⟩
      · simp [State.resetHeld, show ((v.withBeacons x).causesEnded u).ctl.rstnLow = true from low]
      · have run : ((v.withBeacons x).causesEnded u).link.beacons = x := if_neg fun h => h.1 beacon
        simp [State.resetHeld, run, long]
    have start (zero : s.link.beacons = 0) : exec (.startUnit mid) s = .next (((v.withBeacons 0).afterCauses .start mid).framing .start) := by
      have none : v.link.beacons = 0 := beacons.trans zero
      rw [exec_startUnit, State.receive_of_causeEnds listen (place .start fun e => nomatch e) rfl (.inr step)
        (fun _ => .inr none) (by rw [show (s.openUnit 13).link.beacons = 0 from none]; decide),
        show (s.openUnit 13).link.beacons = 0 from none]
      rfl
    have same (zero : s.link.beacons = 0) : r.withBeacons 0 = r := by
      rw [← zero, ← beacons]
      rfl
    have counted (last : s.link.beacons ≠ 63) : exec .beaconUnit s =
        .next ((v.withBeacons (satInc s.link.beacons)).afterCauses .beacon (Config.midMessage s.link.units)) := by
      rw [exec_beaconUnit, State.receive_of_causeEnds listen (place .beacon fun _ => last) rfl (.inr step)
        (fun e => absurd rfl e) (by rw [State.openUnit_beacons]; exact last), State.openUnit_beacons]
      rfl
    have shown : b = r.withBeacons (satInc s.link.beacons) := by
      rw [satInc_eight]
      rfl
    refine ⟨fun zero high => ⟨_, v.cap.releaseFeeds_released mid, ?_⟩, fun zero low => ?_,
      fun short high => ⟨_, v.cap.releaseFeeds_released _, ?_⟩, fun last other => ?_⟩
    · rw [start zero, free 0 high (by decide), State.framing_of_frames rfl, if_pos rfl, same zero]
    · rw [start zero, held 0 .start mid (.inr (by decide)) (.inl low), same zero, State.framing_of_reset (by exact reset)]
    · have less : (satInc s.link.beacons).toNat < 64 := by
        rw [toNat_satInc_eight]
        omega
      rw [counted (fun last => by rw [last] at short; exact absurd short (by decide)), free _ high less, shown]
    · rw [counted last, held _ .beacon _ (.inl rfl), shown]
      rcases other with low | long
      · exact .inl low
      · refine .inr ⟨rfl, ?_⟩
        rw [toNat_satInc_eight]
        omega

end

end Sys2Proof.Machine
end

section
/-! SUPPORT. The counts that link units advance, and the rows that let units pass: the page open, the frame watch and the
phases of a self-test (O58, O51, O52). -/

namespace Sys2Proof.Machine

set_option Elab.async false

open Sys2Proof (Instr LinkUnit Bank)

section
variable {s v x : State} {b : Bank} {p : Nat}

/-! ## One unit -/

/-- What a unit counts (R1, R114, R119, R126, R151, R163). -/
theorem State.endUnit_eq (s : State) (m : Moment) :
    let left : Bank → PageState → PageState := fun b p =>
      match p with
      | .opening page remaining => .opening page (if .opening b ∈ m.begun then remaining else remaining - 1)
      | .opened page => .opened page
      | .none => .none
    s.endUnit m =
      { s with
        link := { s.link with units := s.link.units + 1 }
        ctl := { s.ctl with
          softStep := if .softStep ∈ m.begun then s.ctl.softStep else s.ctl.softStep.map (fun k => k - 1) }
        stl := { s.stl with
          bank0 := left .bank0 s.stl.bank0
          bank1 := left .bank1 s.stl.bank1
          writerDue := s.stl.writerDue || decide (m.place < 60) }
        lane := { s.lane with
          watchCount :=
            if m.marker = false ∧ s.ctl.mode = .run then s.lane.watchCount + 1 else s.lane.watchCount }
        ste := { s.ste with
          units := if s.ste.phase = .idle ∨ .phase ∈ m.begun then s.ste.units else s.ste.units + 1 }
        now := some { m with unit := true, place := max m.place 10 } } := by
  intro left
  have count (c : TimedCount) {α : Type} (x y : α) : (if m.counts c then x else y) = if c ∈ m.begun then y else x := by
    by_cases h : c ∈ m.begun <;> simp [Moment.counts, h]
  have bank (b : Bank) (p : PageState) : (if .opening b ∈ m.begun then p else p.countUnit) = left b p := by
    cases p <;> by_cases h : TimedCount.opening b ∈ m.begun <;> simp [left, PageState.countUnit, h]
  have stl : s.stl.countUnit m = { s.stl with
      bank0 := left .bank0 s.stl.bank0
      bank1 := left .bank1 s.stl.bank1
      writerDue := s.stl.writerDue || decide (m.place < 60) } := by
    rw [Store.countUnit, count, count, bank, bank]
  have lane : (if !m.marker && s.ctl.mode = .run then s.lane.countUnit else s.lane) = { s.lane with
      watchCount := if m.marker = false ∧ s.ctl.mode = .run then s.lane.watchCount + 1 else s.lane.watchCount } := by
    by_cases h : m.marker = false ∧ s.ctl.mode = .run
    · simp [h, Lane.countUnit]
    · rw [if_neg h, if_neg (by simpa using h)]
  have ste : s.ste.countUnit m = { s.ste with
      units := if s.ste.phase = .idle ∨ .phase ∈ m.begun then s.ste.units else s.ste.units + 1 } := by
    rw [SelfTest.countUnit]
    by_cases h : s.ste.phase = .idle <;> by_cases g : TimedCount.phase ∈ m.begun <;> simp [Moment.counts, h, g]
  rw [State.endUnit, State.countUnit, Control.countUnit, count, stl, lane, ste]
  rfl

/-! ## An IDLE that passes outside RESET -/

/-- The link interface is in LISTEN and no reset cause holds. -/
structure State.Idles (s : State) : Prop where
  listen : s.link.rx = .listen
  free : s.resetHeld = false

theorem State.ModesConsistent.idles (h : s.ModesConsistent) (listen : s.link.rx = .listen) (awake : s.ctl.mode ≠ .reset) :
    s.Idles :=
  ⟨listen, by rw [← Bool.not_eq_true]; exact fun held => awake (h.held.2 held)⟩

theorem State.Idles.parts (h : s.Idles) :
    s.ctl.rstnLow = false ∧ s.link.beacons.toNat < 64 ∧ s.ctl.softStep = none := by
  simpa [State.resetHeld, and_assoc] using h.free

/-- What the end of a short run keeps (R50, R54, R56). -/
structure State.RunEnds (v t : State) : Prop where
  ident : t.ident = v.ident
  mode : t.ctl.mode = v.ctl.mode ∨ v.ctl.mode = .quiet ∧ t.ctl.mode = .setup
  ctl : t.ctl = { v.ctl with mode := t.ctl.mode }
  cap : t.cap = v.cap
  sct : t.sct = v.sct
  lane : t.lane = v.lane
  stl : t.stl = v.stl
  ste : t.ste = v.ste
  user : t.user = v.user
  link : t.link = { v.link with beacons := 0 }
  now : t.now = v.now ∨ t.now = v.now.map (·.upTo 20)

theorem State.runEnds_afterRun (v : State) : v.RunEnds v.afterRun := by
  unfold State.afterRun
  split_ifs with run
  · rcases v.endRun_cases with ⟨quiet, -, -, e⟩ | ⟨-, -, e⟩ | e <;> rw [e]
    · exact ⟨rfl, .inr ⟨quiet, rfl⟩, rfl, rfl, rfl, rfl, rfl, rfl, rfl, rfl, .inr rfl⟩
    · exact ⟨by simp, .inl (by simp), by simp, by simp, by simp, by simp, by simp, by simp, by simp, by simp,
        .inr (by simp [State.atPlace])⟩
    · exact ⟨rfl, .inl rfl, rfl, rfl, rfl, rfl, rfl, rfl, rfl, rfl, .inr rfl⟩
  · rw [not_not] at run
    exact ⟨rfl, .inl rfl, rfl, rfl, rfl, rfl, rfl, rfl, rfl, by rw [← run], .inl rfl⟩

/-- The instant at which the last unit has passed takes the completions of step 8. -/
def State.Passed (s : State) : Prop := ∃ m, s.now = some m ∧ m.unit = true ∧ m.place < 80

/-- Outside RESET an IDLE that passes in LISTEN is counted and ends a beacon run. -/
theorem State.Idles.passUnit (h : s.Idles) (phase : s.ste.phaseDone = false) (mid : BitVec 4) :
    ∃ x m, (x = s ∧ s.now = some m ∧ m.awaits 70 = true ∨ x = s.close ∧ m = Moment.fresh 10) ∧ m.begun = [] ∧
      s.Rests x ∧ (x.endUnit m).RunEnds (s.passUnit mid) ∧ (s.passUnit mid).Passed ∧ (s.passUnit mid).Idles := by
  obtain ⟨x, m, from_, begun, e⟩ := State.passUnit_of_listen h.listen mid
  have rests : s.Rests x := by
    rcases from_ with ⟨rfl, -⟩ | ⟨rfl, -⟩
    · exact ⟨rfl, rfl, rfl, rfl, rfl, rfl, rfl⟩
    · exact s.close_rests h.listen phase
  obtain ⟨low, short, step⟩ := h.parts
  have soft : (x.endUnit m).ctl.softStep = none := by simp [Control.countUnit, rests.ctl, step]
  rw [State.endCauses_none (.inr (by simpa [rests.link] using short)) (by rw [soft]; exact fun e => nomatch e)] at e
  have ends := (x.endUnit m).runEnds_afterRun
  rw [← e] at ends
  refine ⟨x, m, from_, begun, rests, ends, ?_, ?_, ?_⟩
  · have early : m.place < 70 := by
      rcases from_ with ⟨-, -, awaits⟩ | ⟨-, rfl⟩
      · simp only [Moment.awaits, Bool.and_eq_true, decide_eq_true_eq] at awaits
        exact awaits.2
      · decide
    rcases ends.now with now | now <;> rw [State.Passed, now]
    · exact ⟨_, rfl, rfl, by simp; omega⟩
    · exact ⟨_, rfl, rfl, by simp; omega⟩
  · rw [ends.link]
    simp [rests.link, h.listen]
  · have ctl := ends.ctl
    have link := ends.link
    simp [State.resetHeld, link, show (s.passUnit mid).ctl.rstnLow = false by rw [ctl]; simp [Control.countUnit, rests.ctl, low],
      show (s.passUnit mid).ctl.softStep = none by rw [ctl]; exact soft]

/-- The completions of step 8 are taken at the instant of the unit that has passed. -/
theorem State.Passed.reach {p : Nat} (h : s.Passed) (completes : 80 ≤ p) :
    ∃ m, s.reach p = { s.takeOwn p with now := some m } := by
  obtain ⟨m, now, -, early⟩ := h
  exact ⟨_, State.reach_of_admits now ((m.admits_iff p).2 ⟨.inl (by omega), by omega⟩)⟩

/-! ## The units of a self-test phase -/

/-- A unit of a running phase is counted (R151). -/
theorem State.Idles.passUnit_phase (h : s.Idles) {p : Phase} (runs : p ≠ .idle) (phase : s.ste.phase = p)
    (more : s.ste.units < p.length) (mid : BitVec 4) :
    (s.passUnit mid).ste.phase = p ∧ (s.passUnit mid).ste.units = s.ste.units + 1 ∧
      (s.passUnit mid).link.units = s.link.units + 1 ∧ (s.passUnit mid).Passed ∧ (s.passUnit mid).Idles := by
  obtain ⟨x, m, -, begun, rests, ends, passed, idles⟩ :=
    h.passUnit (by simp [SelfTest.phaseDone, phase, runs, more]) mid
  have counts : m.counts .phase = true := (m.counts_iff _).2 (by simp [begun])
  refine ⟨?_, ?_, ?_, passed, idles⟩
  · simp [ends.ste, SelfTest.countUnit, rests.ste, phase]
  · simp [ends.ste, SelfTest.countUnit, rests.ste, phase, runs, counts]
  · simp [ends.link, rests.link]

/-- The units that a running phase still lacks pass one by one (R151, log entry 3). -/
theorem State.Idles.passWhile_phase {p : Phase} (runs : p ≠ .idle) (n : Nat) {s : State} (h : s.Idles)
    (phase : s.ste.phase = p) (lacks : s.ste.units + n = p.length) :
    let t := State.passWhile (State.phaseRuns p) 0 n s
    t.ste.phase = p ∧ t.ste.units = p.length ∧ t.link.units = s.link.units + n ∧ t.Idles ∧ (n ≠ 0 ∨ s.Passed → t.Passed) := by
  induction n generalizing s with
  | zero => exact ⟨phase, lacks, rfl, h, fun passed => passed.resolve_left fun h => h rfl⟩
  | succ n ih =>
    have goes : State.phaseRuns p s = true := by simp [State.phaseRuns, SelfTest.phaseDone, phase, runs]; omega
    obtain ⟨same, counted, units, passed, idles⟩ := h.passUnit_phase runs phase (by omega) 0
    obtain ⟨same', counted', units', idles', passed'⟩ := ih idles same (by omega)
    rw [State.passWhile, if_pos goes]
    exact ⟨same', counted', by rw [units', units]; omega, idles', fun _ => passed' (.inr passed)⟩

/-! ## The units of a page open -/

theorem Store.bank_setBank_of_ne {t : Store} {b c : Bank} (other : c ≠ b) (q : PageState) :
    (t.setBank c q).bank b = t.bank b := by
  cases b <;> cases c <;> first | rfl | exact absurd rfl other

theorem Store.bank_setBank_self (t : Store) (b : Bank) (q : PageState) : (t.setBank b q).bank b = q := by cases b <;> rfl

theorem Store.writeRecord_bank (t : Store) (o : Offer) (b : Bank) : (t.writeRecord o).bank b = t.bank b := by
  obtain ⟨m, e⟩ := t.writeRecord_eq o
  rw [e]
  split_ifs <;> cases b <;> rfl

/-- The log writer leaves a page open that is in progress (R119, R126). -/
theorem State.writerStep_opening {page n : Nat} (opening : s.stl.bank b = .opening page n) :
    s.writerStep.stl.bank b = .opening page n := by
  have taken : s.stl.stepTaken.bank b = .opening page n := by cases b <;> exact opening
  rcases s.writerStep_stl_cases with e | ⟨o, rest, -, -, ⟨-, e⟩ | ⟨-, -, e⟩ | ⟨-, -, idle, e⟩⟩ <;> rw [e]
  · exact taken
  · cases b <;> exact taken
  · have popped (t : Store) : t.popQueue.bank b = t.bank b := by cases b <;> rfl
    rw [popped, Store.writeRecord_bank, taken]
  · refine (Store.bank_setBank_of_ne (fun same => ?_) _).trans taken
    rw [show s.stl.bankOf _ = b from same, opening] at idle
    exact nomatch idle

/-- The completion of a page open leaves one with units to come, and one of the other bank (R119). -/
theorem State.completeOpen_opening {page n : Nat} {c : Bank} (opening : s.stl.bank b = .opening page n)
    (goes : n ≠ 0 ∨ c ≠ b) : (s.completeOpen c).stl.bank b = .opening page n := by
  rcases s.completeOpen_cases c with ⟨q, done, e⟩ | ⟨-, e⟩ <;> rw [e]
  · refine (Store.bank_setBank_of_ne (fun same => ?_) _).trans opening
    rw [same, opening] at done
    rcases goes with more | other
    · simp [more] at done
    · exact other same
  · exact opening

/-- A page open that has units to come, or whose completion is still to come, goes on at the instant. -/
theorem State.takeOwn_opening {page n : Nat} (listen : s.link.rx = .listen) (phase : p ≤ 83 ∨ s.ste.phaseDone = false)
    (opening : s.stl.bank b = .opening page n) (goes : n ≠ 0 ∨ p ≤ 80 + bankNumber b) :
    (s.takeOwn p).stl.bank b = .opening page n := by
  have writer : (if 60 < p then s.writerStep else s).stl.bank b = .opening page n := by
    split_ifs
    · exact State.writerStep_opening opening
    · exact opening
  have completes (x : State) (c : Bank) (h : x.stl.bank b = .opening page n) :
      (if 80 + bankNumber c < p then x.completeOpen c else x).stl.bank b = .opening page n := by
    split_ifs with late
    · refine State.completeOpen_opening h (goes.imp_right fun early same => ?_)
      rw [same] at late
      omega
    · exact h
  have watched (x : State) : (if 82 < p then x.expireWatch else x).stl = x.stl := by simp [apply_ite State.stl]
  rw [State.takeOwn_of_listen listen phase]
  dsimp only
  rw [watched]
  exact completes _ .bank1 (completes _ .bank0 writer)

theorem State.close_opening {page n : Nat} (listen : s.link.rx = .listen) (phase : s.ste.phaseDone = false)
    (opening : s.stl.bank b = .opening page (n + 1)) : s.close.stl.bank b = .opening page (n + 1) := by
  rcases s.close_cases with ⟨-, e⟩ | ⟨m, -, e⟩ <;> rw [e]
  · exact opening
  · exact State.takeOwn_opening (p := 90) listen (.inr phase) opening (.inl (by omega))

/-- The state is awake in LISTEN, with no self-test running. -/
structure State.Rested (s : State) : Prop extends s.Idles where
  phase : s.ste.phase = .idle

theorem State.Rested.phaseDone (h : s.Rested) : s.ste.phaseDone = false := by simp [SelfTest.phaseDone, h.phase]

theorem State.ModesConsistent.rested (h : s.ModesConsistent) (listen : s.link.rx = .listen)
    (awake : s.ctl.mode ≠ .reset) (tested : s.ctl.mode ≠ .selftest) : s.Rested :=
  ⟨h.idles listen awake, by by_contra runs; exact tested (h.testing.1 runs)⟩

/-- A unit of a page open is counted (R119). -/
theorem State.Rested.passUnit_opening (h : s.Rested) {page n : Nat} (opening : s.stl.bank b = .opening page (n + 1))
    (mid : BitVec 4) :
    (s.passUnit mid).stl.bank b = .opening page n ∧ (s.passUnit mid).link.units = s.link.units + 1 ∧
      (s.passUnit mid).Passed ∧ (s.passUnit mid).Rested := by
  obtain ⟨x, m, from_, begun, rests, ends, passed, idles⟩ := h.passUnit h.phaseDone mid
  have counts (c : TimedCount) : m.counts c = true := (m.counts_iff c).2 (by simp [begun])
  have going : x.stl.bank b = .opening page (n + 1) := by
    rcases from_ with ⟨rfl, -⟩ | ⟨rfl, -⟩
    · exact opening
    · exact State.close_opening h.listen h.phaseDone opening
  refine ⟨?_, ?_, passed, idles, ?_⟩
  · have counted : (x.endUnit m).stl.bank b = (x.stl.bank b).countUnit := by
      cases b <;> simp [Store.bank, Store.countUnit, counts]
    rw [ends.stl, counted, going]
    rfl
  · simp [ends.link, rests.link]
  · simp [ends.ste, SelfTest.countUnit, rests.ste, h.phase]

/-- The units that a page open still lacks pass one by one (R119, log entry 3). -/
theorem State.Rested.passWhile_opening {page : Nat} (n : Nat) {s : State} (h : s.Rested)
    (opening : s.stl.bank b = .opening page n) :
    let t := State.passWhile (State.openWaits b) 0 n s
    t.stl.bank b = .opening page 0 ∧ t.link.units = s.link.units + n ∧ t.Rested := by
  induction n generalizing s with
  | zero => exact ⟨opening, rfl, h⟩
  | succ n ih =>
    have goes : State.openWaits b s = true := by simp [State.openWaits, opening]
    obtain ⟨left, units, -, rested⟩ := h.passUnit_opening opening 0
    obtain ⟨left', units', rested'⟩ := ih rested left
    rw [State.passWhile, if_pos goes]
    exact ⟨left', by rw [units', units]; omega, rested'⟩

/-- The completion of a page open whose units have passed (R119). -/
theorem State.completeOpen_of_ready {page : Nat} (ready : s.stl.bank b = .opening page 0) :
    s.completeOpen b = { s with stl := s.stl.setBank b (.opened page) } := by
  simp [State.completeOpen, ready]

/-- A page that is open stays open when the opens of step 8 complete. -/
theorem State.completeOpen_opened {page : Nat} {c : Bank} (opened : s.stl.bank b = .opened page) :
    (s.completeOpen c).stl.bank b = .opened page := by
  rcases s.completeOpen_cases c with ⟨q, done, e⟩ | ⟨-, e⟩ <;> rw [e]
  · refine (Store.bank_setBank_of_ne (fun same => ?_) _).trans opened
    rw [same, opened] at done
    exact nomatch done
  · exact opened

/-- The node's own events of an instant complete a page open whose units have passed (R119). -/
theorem State.Rested.takeOwn_completes (h : s.Rested) {page : Nat} (ready : s.stl.bank b = .opening page 0) :
    (s.takeOwn 90).stl.bank b = .opened page := by
  have written := State.writerStep_opening ready
  rw [State.takeOwn_ninety_of_listen h.listen h.phaseDone, State.expireWatch_stl]
  cases b with
  | bank0 =>
    refine State.completeOpen_opened ?_
    rw [State.completeOpen_of_ready written, Store.bank_setBank_self]
  | bank1 => rw [State.completeOpen_of_ready (State.completeOpen_opening written (.inr (by decide))), Store.bank_setBank_self]

/-- At its place the page open is complete, or the end of the instant before has completed it. -/
theorem State.Rested.completes (h : s.Rested) {page : Nat} (ready : s.stl.bank b = .opening page 0) :
    ((s.reach (80 + bankNumber b)).completeOpen b).stl.bank b = .opened page ∧
      ((s.reach (80 + bankNumber b)).completeOpen b).link.units = s.link.units := by
  have early : 80 + bankNumber b ≤ 83 := by cases b <;> decide
  rw [State.completeOpen_link]
  rcases s.reach_cases (80 + bankNumber b) with ⟨m, -, -, e⟩ | ⟨-, e⟩
  · have going : (s.reach (80 + bankNumber b)).stl.bank b = .opening page 0 := by
      rw [e]
      exact State.takeOwn_opening h.listen (.inl early) ready (.inr le_rfl)
    rw [State.completeOpen_of_ready going, Store.bank_setBank_self, e]
    exact ⟨rfl, congrArg Link.units (State.takeOwn_rests h.listen (.inl early)).link⟩
  · have units : (s.reach (80 + bankNumber b)).link.units = s.link.units := by
      rw [e]
      exact congrArg Link.units (s.close_rests h.listen h.phaseDone).link
    refine ⟨?_, units⟩
    rcases s.close_cases with ⟨-, shut⟩ | ⟨m, -, shut⟩
    · rw [State.completeOpen_of_ready (by rw [e, shut]; exact ready), Store.bank_setBank_self]
    · exact State.completeOpen_opened (by rw [e, shut]; exact h.takeOwn_completes ready)

/-! ## The units of the frame watch -/

/-- The frame watch counts, with units to come (R114). -/
structure State.Watches (s : State) (x : State) : Prop extends x.Rested where
  mode : x.ctl.mode = .run
  lane : x.lane = { s.lane with watchCount := x.lane.watchCount }
  alone : ∀ m, x.now = some m → m.unit = true

theorem Lane.silentDetail_eq (l : Lane) :
    l.silentDetail = BitVec.ofNat 8 l.sub.code ++ l.watchCfg.extractLsb' 0 8 := rfl

/-- At the end of an instant the frame watch below its limit stays as it is (R114). -/
theorem State.close_lane (below : s.lane.watchCount < s.lane.watchLimit) (listen : s.link.rx = .listen)
    (phase : s.ste.phaseDone = false) : s.close.lane = s.lane := by
  have watched (x : State) (h : x.lane = s.lane) : x.expireWatch = x := by
    rcases x.expireWatch_cases with ⟨-, limit, -⟩ | ⟨-, e⟩
    · rw [h] at limit
      omega
    · exact e
  rcases s.close_cases with ⟨-, e⟩ | ⟨m, -, e⟩ <;> rw [e]
  change (s.takeOwn 90).lane = s.lane
  rw [State.takeOwn_ninety_of_listen listen phase, watched] <;> simp

/-- A unit of the frame watch is counted (R114). -/
theorem State.Watches.passUnit (h : s.Watches x) (below : x.lane.watchCount < s.lane.watchLimit) (mid : BitVec 4) :
    s.Watches (x.passUnit mid) ∧ (x.passUnit mid).lane.watchCount = x.lane.watchCount + 1 ∧
      (x.passUnit mid).link.units = x.link.units + 1 ∧ (x.passUnit mid).Passed := by
  have limit : x.lane.watchLimit = s.lane.watchLimit := by rw [h.lane]; rfl
  obtain ⟨y, m, from_, begun, rests, ends, passed, idles⟩ := h.toIdles.passUnit h.phaseDone mid
  obtain ⟨rfl, rfl⟩ : y = x.close ∧ m = Moment.fresh 10 := by
    rcases from_ with ⟨-, now, awaits⟩ | ⟨rfl, rfl⟩
    · simp [Moment.awaits, h.alone m now] at awaits
    · exact ⟨rfl, rfl⟩
  have run : x.close.ctl.mode = .run := by rw [rests.ctl, h.mode]
  have lane : (x.passUnit mid).lane = { x.lane with watchCount := x.lane.watchCount + 1 } := by
    rw [ends.lane, State.endUnit_lane, State.countUnit_lane, run, State.close_lane (by omega) h.listen h.phaseDone]
    rfl
  have mode : (x.passUnit mid).ctl.mode = .run := by
    rcases ends.mode with e | ⟨quiet, -⟩
    · rw [e]; exact run
    · exact nomatch run.symm.trans quiet
  refine ⟨⟨⟨idles, ?_⟩, mode, ?_, fun m' now => ?_⟩, by rw [lane], by simp [ends.link, rests.link], passed⟩
  · simp [ends.ste, SelfTest.countUnit, rests.ste, h.phase]
  · rw [lane, h.lane]
  · obtain ⟨m, now', unit, -⟩ := passed
    rw [now] at now'
    cases now'
    exact unit

/-- The units that the frame watch still lacks pass one by one (R114, log entry 3). -/
theorem State.Watches.passWhile (on : s.lane.watchLimit ≠ 0) (open_ : s.lane.watchExpired = false) (n : Nat) {x : State} (h : s.Watches x)
    (lacks : x.lane.watchCount + n = s.lane.watchLimit) :
    let t := State.passWhile State.watchWaits 0 n x
    s.Watches t ∧ t.lane.watchCount = s.lane.watchLimit ∧ t.link.units = x.link.units + n ∧
      (n ≠ 0 ∨ x.Passed → t.Passed) := by
  induction n generalizing x with
  | zero => exact ⟨h, lacks, rfl, fun passed => passed.resolve_left fun h => h rfl⟩
  | succ n ih =>
    have goes : State.watchWaits x = true := by
      have limit : x.lane.watchLimit = s.lane.watchLimit := by rw [h.lane]; rfl
      have still : x.lane.watchExpired = false := by rw [h.lane]; exact open_
      simp [State.watchWaits, State.watchRuns, h.mode, limit, still, on]
      omega
    obtain ⟨watches, counted, units, passed⟩ := h.passUnit (by omega) 0
    obtain ⟨watches', counted', units', passed'⟩ := ih watches (by omega)
    rw [State.passWhile, if_pos goes]
    exact ⟨watches', counted', by rw [units', units]; omega, fun _ => passed' (.inr passed)⟩

/-- The unit of a passing step ends at the open instant, or at one of its own (R1, log entry 23). -/
theorem State.forUnit_eq {v : State}
    (h : (∃ m, s.now = some m ∧ m.unit = false ∧ m.place < 70 ∧ m.begun = []) ∧ v = s ∨
      (∀ m, s.now = some m → m.unit = true ∨ 70 ≤ m.place ∨ m.begun ≠ []) ∧ v = s.close) : s.forUnit = v := by
  rcases s.forUnit_cases with ⟨m, now, awaits, begun, e⟩ | ⟨shut, e⟩ <;> rw [e]
  · rcases h with ⟨-, rfl⟩ | ⟨other, -⟩
    · rfl
    · simp only [Moment.awaits, Bool.and_eq_true, Bool.not_eq_true', decide_eq_true_eq] at awaits
      rcases other m now with unit | late | some_
      · simp [awaits.1] at unit
      · omega
      · exact absurd begun some_
  · rcases h with ⟨⟨m, now, unit, early, begun⟩, -⟩ | ⟨-, rfl⟩
    · rcases shut m now with awaits | some_
      · simp [Moment.awaits, unit, early] at awaits
      · exact absurd begun some_
    · rfl

theorem State.expireWatch_of_limit (run : s.ctl.mode = .run) (on : s.lane.watchLimit ≠ 0)
    (open_ : s.lane.watchExpired = false) (limit : s.lane.watchLimit ≤ s.lane.watchCount) :
    s.expireWatch =
      { s.raise .laneSilent s.lane.silentDetail with lane := { s.lane with watchExpired := true } } := by
  rcases s.expireWatch_cases with ⟨-, -, e⟩ | ⟨stays, -⟩
  · exact e
  · rcases stays with off | below
    · simp [State.watchRuns, run, on, open_] at off
    · omega

theorem Lane.watchLimit_ne_zero (l : Lane) : l.watchLimit ≠ 0 ↔ l.watchCfg.extractLsb' 0 8 ≠ 0 := by
  have zero : (l.watchCfg.extractLsb' 0 8).toNat = 0 ↔ l.watchCfg.extractLsb' 0 8 = 0 :=
    ⟨fun h => BitVec.eq_of_toNat_eq h, fun h => by rw [h]; rfl⟩
  rw [Lane.watchLimit, ne_eq, Nat.mul_eq_zero, or_iff_left (by decide), zero]

/-- The frame watch below its limit takes its units at once when no instant is open. -/
theorem State.Watches.before (h : s.Watches s) (on : s.lane.watchLimit ≠ 0) (open_ : s.lane.watchExpired = false)
    (shut : s.now = none) :
    let t := s.before .frameWatchExpiry
    t.ctl.mode = .run ∧ t.link.units = s.link.units + (s.lane.watchLimit - s.lane.watchCount) ∧
      ∃ n, t.lane = { s.lane with watchCount := n } ∧ s.lane.watchLimit ≤ n := by
  intro t
  by_cases below : s.lane.watchCount < s.lane.watchLimit
  · obtain ⟨watches, counted, units, passed⟩ := h.passWhile on open_ (s.lane.watchLimit - s.lane.watchCount) (by omega)
    obtain ⟨m, e⟩ := (passed (.inl (by omega))).reach (p := 82) (by omega)
    obtain ⟨y, hy⟩ : ∃ y, s.passWhile State.watchWaits 0 (s.lane.watchLimit - s.lane.watchCount) = y := ⟨_, rfl⟩
    rw [hy] at watches counted units e
    have rests : y.Rests (y.takeOwn 82) := State.takeOwn_rests watches.listen (.inl (by omega))
    have lane : (y.takeOwn 82).lane = y.lane := by
      rw [State.takeOwn_of_listen watches.listen (.inl (by omega))]
      simp
    have shown : t = { y.takeOwn 82 with now := some m } := (congrArg (State.reach · 82) hy).trans e
    rw [shown]
    exact ⟨by rw [rests.ctl]; exact watches.mode, by rw [rests.link]; exact units, y.lane.watchCount,
      lane.trans watches.lane, by rw [counted]⟩
  · have shown : t = { s with now := some (Moment.fresh 82) } := by
      change (s.passWhile State.watchWaits 0 (s.lane.watchLimit - s.lane.watchCount)).reach 82 = _
      rw [show s.lane.watchLimit - s.lane.watchCount = 0 by omega]
      rcases s.reach_cases 82 with ⟨m, now, -⟩ | ⟨-, e⟩
      · exact nomatch shut.symm.trans now
      · rw [State.close_of_shut shut] at e
        exact e
    rw [shown]
    exact ⟨h.mode, by simp; omega, s.lane.watchCount, rfl, by omega⟩

/-- Settles O58: the counts of a unit, its instant, and the units of the page opens and of the frame watch. -/
theorem countsRunOutWithUnits : Obligations.CountsRunOutWithUnits := by
  refine ⟨State.endUnit_eq, fun s p => ⟨fun m now unit early => ?_, fun other => ?_⟩, fun s mid n => ⟨rfl, rfl, ?_⟩, ?_, ?_, ?_⟩
  · rcases s.openUnit_cases p with ⟨m', now', -, e⟩ | ⟨shut, -⟩
    · rw [now] at now'
      cases now'
      exact e
    · simpa [Moment.awaits, unit, early] using shut m now
  · rcases s.openUnit_cases p with ⟨m, now, awaits, -⟩ | ⟨-, e⟩
    · simp only [Moment.awaits, Bool.and_eq_true, Bool.not_eq_true', decide_eq_true_eq] at awaits
      rcases other m now with unit | late
      · simp [awaits.1] at unit
      · omega
    · exact e
  · intro v from_
    have same := State.forUnit_eq from_
    refine ⟨fun stalled => ?_, fun goes => ?_⟩
    · rcases s.passUnit_cases mid with ⟨-, e⟩ | ⟨goes, -⟩
      · rw [e, same]
      · simp [same, stalled] at goes
    · rcases s.passUnit_cases mid with ⟨stalled, -⟩ | ⟨-, e⟩
      · simp [same, goes] at stalled
      · rw [e, same, RxState.filler]
  · intro b s idle
    change execPageOpenDone b s = _
    unfold execPageOpenDone
    split
    · rename_i page n opening
      exact absurd opening (idle page n)
    · rfl
  · intro b s page n opening
    refine ⟨fun zero => State.completeOpen_of_ready (by rw [opening, zero]), fun more => ?_, fun consistent listen mode => ?_⟩
    · rcases s.completeOpen_cases b with ⟨q, done, -⟩ | ⟨-, e⟩
      · rw [opening] at done
        simp [more] at done
      · exact e
    · have rested : s.Rested := consistent.rested listen (by rcases mode with e | e | e <;> simp [e])
        (by rcases mode with e | e | e <;> simp [e])
      obtain ⟨ready, units, rested'⟩ := rested.passWhile_opening n opening
      obtain ⟨opened, kept⟩ := rested'.completes ready
      have row : exec (.pageOpenDone b) s =
          .next (((s.passWhile (State.openWaits b) 0 n).reach (80 + bankNumber b)).completeOpen b) := by
        change execPageOpenDone b s = _
        unfold execPageOpenDone
        rw [opening]
      exact ⟨_, row, opened, kept.trans units⟩
  · intro s limit silent counts
    have limit_eq : s.lane.watchLimit = limit.toNat * 256 := rfl
    refine ⟨fun on atLimit => ?_, fun on consistent listen shut => ?_, fun off => ?_⟩
    · obtain ⟨run, set, open_⟩ := on
      exact State.expireWatch_of_limit run (s.lane.watchLimit_ne_zero.2 set) open_ atLimit
    · obtain ⟨run, set, open_⟩ := on
      have on := s.lane.watchLimit_ne_zero.2 set
      have watches : s.Watches s :=
        ⟨consistent.rested listen (by simp [run]) (by simp [run]), run, rfl, fun m now => nomatch shut.symm.trans now⟩
      obtain ⟨mode, units, n, lane, atLimit⟩ := watches.before on open_ shut
      have row : exec .frameWatchExpiry s = .next (s.before .frameWatchExpiry).expireWatch := by
        change execFrameWatchExpiry s = _
        rw [execFrameWatchExpiry, if_neg (by simp [State.watchRuns, run, on, open_, shut])]
        rfl
      rw [row, State.expireWatch_of_limit mode (by rw [lane]; exact on) (by rw [lane]; exact open_) (by rw [lane]; exact atLimit)]
      refine ⟨?_, units⟩
      rw [Lane.silentDetail_eq, lane]
      simp only [silent, lane]
      rfl
    · change execFrameWatchExpiry s = _
      refine if_pos ?_
      rcases off with still | ⟨isOpen, zero⟩
      · have : s.watchRuns = false := by
          rw [← Bool.not_eq_true]
          intro runs
          simp only [State.watchRuns, Bool.and_eq_true, decide_eq_true_eq, Bool.not_eq_true'] at runs
          exact still ⟨runs.1.1, s.lane.watchLimit_ne_zero.1 runs.1.2, runs.2⟩
        simp [this]
      · simp [zero, Option.isSome_iff_ne_none, isOpen]

end

end Sys2Proof.Machine
end

section
/-! SUPPORT. What the end of a self-test phase leaves (O51) and what a failed word holds (O52). -/

namespace Sys2Proof.Machine

set_option Elab.async false

open Sys2Proof (Instr LinkUnit Bank Word)

section
variable {s u : State} {p : Phase}

/-! ## The row and the phase's end -/

/-- SELFTEST_PHASE_END of a running phase: its units have passed, then it ends (R151). -/
theorem exec_selftestPhaseEnd (runs : s.ste.phase ≠ .idle) (failed : List FailedWord) :
    exec (.selftestPhaseEnd failed) s = .next ((s.before (.selftestPhaseEnd failed)).endPhaseIfDone failed) := by
  change execSelftestPhaseEnd failed s = _
  rw [execSelftestPhaseEnd, if_neg runs]
  rfl

/-- A phase whose units have passed ends, with the failures that it can find (R151). -/
theorem State.endPhaseIfDone_of_done (runs : p ≠ .idle) (phase : u.ste.phase = p) (done : p.length ≤ u.ste.units)
    (failed : List FailedWord) :
    u.endPhaseIfDone failed =
      let bad := failed.filter (fun f => p.tests f.1.toNat)
      State.phaseEffect { u with ste := u.ste.endPhase bad } p bad := by
  rw [State.endPhaseIfDone, if_pos (by simp [SelfTest.phaseDone, phase, runs, done]), State.endPhase, phase]

/-- The result words of a phase that found no failure (R157). -/
theorem SelfTest.endPhase_of_pass (t : SelfTest) : t.endPhase [] = { t with phase := t.phase.following, units := 0 } := by
  simp [SelfTest.endPhase]

/-- A phase that finds no failure (R151, R157). -/
theorem exec_selftestPhaseEnd_of_pass (runs : p ≠ .idle) (phase : s.ste.phase = p)
    (same : (s.before (.selftestPhaseEnd [])).ste.phase = p)
    (done : p.length ≤ (s.before (.selftestPhaseEnd [])).ste.units) :
    let u := s.before (.selftestPhaseEnd [])
    exec (.selftestPhaseEnd []) s =
      .next (State.phaseEffect { u with ste := { u.ste with phase := p.following, units := 0 } } p []) := by
  intro u
  rw [exec_selftestPhaseEnd (by rw [phase]; exact runs), State.endPhaseIfDone_of_done runs same done]
  dsimp only
  rw [List.filter_nil, SelfTest.endPhase_of_pass, same]

/-- Settles O51: the units of the phase pass, then its end is `State.phaseEffect`. -/
theorem passingPhasesEnd : Obligations.PassingPhasesEnd := by
  refine ⟨fun s consistent listen runs more => ?_, rfl, fun s => ?_⟩
  · intro u
    have awake : s.ctl.mode = .selftest := consistent.testing.1 runs
    obtain ⟨phase, counted, units, idles, passed⟩ := (consistent.idles listen (by simp [awake])).passWhile_phase runs
      (s.ste.phase.length - s.ste.units) rfl (by omega)
    obtain ⟨m, e⟩ := (passed (.inl (by omega))).reach (p := 83) (by omega)
    have shown : u = { State.takeOwn _ 83 with now := some m } := e
    obtain ⟨link, -, -, -, -, ste, -⟩ := State.takeOwn_rests (p := 83) idles.listen (.inl le_rfl)
    rw [shown]
    exact ⟨(congrArg SelfTest.phase ste).trans phase, (congrArg SelfTest.units ste).trans counted,
      (congrArg Link.units link).trans units⟩
  · intro u runs next filled
    have ends (p : Phase) (busy : p ≠ .idle) (h : runs p) : exec (.selftestPhaseEnd []) s =
        .next (State.phaseEffect (next p.following) p []) := exec_selftestPhaseEnd_of_pass busy h.1 h.2.1 h.2.2
    refine ⟨fun h => ends .s1 (by decide) h, fun h => ends .s2 (by decide) h, fun h => ends .s3 (by decide) h,
      fun h none => ?_, fun h => ?_, fun h => ?_⟩
    · have faults : { (next .s5).ste with storeFaults := [] } = (next .s5).ste := by rw [← none]
      rw [ends .s4 (by decide) h, State.phaseEffect, show (next Phase.s4.following).ste.storeFaults = [] from none]
      exact congrArg (fun ste => Host.Outcome.next { next .s5 with
        ste := ste, stl := { u.stl with mem := [], bank0 := .none, bank1 := .none } }) faults
    · rw [ends .s5 (by decide) h]
      refine ⟨{ u.cap with channels := u.cap.channels.map Channel.afterTest }, rfl, rfl, fun c hc => ?_⟩
      rw [Capture.channel_map, if_pos hc]
      rfl
    · have detail : (u.ste.fails.setWidth 16 : BitVec 16) = 0#10 ++ u.ste.fails := by
        generalize u.ste.fails = x
        revert x
        decide
      rw [ends .s6 (by decide) h, ← detail]
      rfl

/-! ## The words that failed -/

/-- The failed word that is reported (R157). -/
theorem lowestAddress_mem {bad : List FailedWord} (some_ : bad ≠ []) :
    ∃ f ∈ bad, lowestAddress bad = f.1.toNat ∧ ∀ g ∈ bad, f.1.toNat ≤ g.1.toNat := by
  induction bad with
  | nil => exact absurd rfl some_
  | cons f fs ih =>
    cases fs with
    | nil => exact ⟨f, by simp, rfl, by simp⟩
    | cons g gs =>
      obtain ⟨x, mem, least, low⟩ := ih (by simp)
      change ∃ y ∈ f :: g :: gs, min f.1.toNat (lowestAddress (g :: gs)) = _ ∧ _
      by_cases first : f.1.toNat ≤ x.1.toNat
      · exact ⟨f, by simp, by omega, fun y hy => (List.mem_cons.1 hy).elim (fun e => e ▸ le_rfl)
          fun hy => first.trans (low y hy)⟩
      · exact ⟨x, List.mem_cons_of_mem _ mem, by omega, fun y hy => (List.mem_cons.1 hy).elim (fun e => e ▸ by omega) (low y)⟩

/-- The words that S1 tests: six registers, USER0 to USER3 and the channel records (R152). -/
theorem Phase.tests_s1_iff (a : Nat) :
    Phase.s1.tests a = true ↔
      (a = 0x004 ∨ a = 0x00D ∨ a = 0x00E ∨ a = 0x010 ∨ a = 0x018 ∨ a = 0x019) ∨ (∃ k < 4, a = 0x030 + k) ∨
        ∃ c < 32, a = 0x100 + c := by
  have record : (0x100 ≤ a ∧ a ≤ 0x11F) ↔ ∃ c < 32, a = 0x100 + c :=
    ⟨fun h => ⟨a - 0x100, by omega, by omega⟩, fun ⟨c, _, e⟩ => by omega⟩
  have user : (a = 0x030 ∨ a = 0x031 ∨ a = 0x032 ∨ a = 0x033) ↔ ∃ k < 4, a = 0x030 + k :=
    ⟨fun h => ⟨a - 0x030, by omega, by omega⟩, fun ⟨c, _, e⟩ => by omega⟩
  rw [← record, ← user]
  simp only [Phase.tests, List.contains_cons, List.contains_nil, Bool.or_eq_true, Bool.and_eq_true, beq_iff_eq,
    decide_eq_true_eq, Bool.false_eq_true, or_false, or_assoc]

theorem storedBits_user {k : Nat} (h : k < 4) : storedBits (0x030 + k) = 0xFFFFFFFF := by interval_cases k <;> rfl

theorem storedBits_eq_fieldBits {a : Nat} (tested : Phase.s1.tests a = true) :
    storedBits a = if a = 0x004 ∨ a = 0x00D then 0xFF else if a = 0x00E then 0xFFFFF else if a = 0x010 then 0xF
      else if a = 0x018 then 0xFF7F07 else if a = 0x019 then 0x3FFF
      else if 0x100 ≤ a ∧ a ≤ 0x11F then 0x1F03 else 0xFFFFFFFF := by
  rcases (Phase.tests_s1_iff a).1 tested with (rfl | rfl | rfl | rfl | rfl | rfl) | ⟨k, hk, rfl⟩ | ⟨c, hc, rfl⟩
  case inr.inl => interval_cases k <;> rfl
  case inr.inr =>
    rw [storedBits_record (by omega), if_neg (by omega), if_neg (by omega), if_neg (by omega), if_neg (by omega),
      if_neg (by omega), if_pos (by omega)]
    rfl
  all_goals rfl

theorem State.readWord_user (s : State) {k : Nat} (h : k < 4) : s.readWord (0x030 + k) = s.user[k]?.getD 0 := by
  interval_cases k <;> rfl

theorem State.hold_user {f : FailedWord} {k : Nat} (h : k < 4) (at_ : f.1.toNat = 0x030 + k) :
    s.hold f = { s with user := s.user.setIfInBounds k (f.2 &&& storedBits (0x030 + k)) } := by
  unfold State.hold
  rw [at_]
  interval_cases k <;> rfl

theorem State.hold_record {f : FailedWord} {c : Nat} (h : c < 32) (at_ : f.1.toNat = 0x100 + c) :
    s.hold f = { s with
      cap := s.cap.setChannel c { s.cap.channel c with record := f.2 &&& storedBits (0x100 + c) } } := by
  unfold State.hold
  rw [at_]
  interval_cases c <;> rfl

/-- What S1 leaves in a word that failed, and in every other word that it tests (R152). -/
theorem State.readWord_hold {f : FailedWord} {a : Nat} (failed : Phase.s1.tests f.1.toNat = true)
    (tested : Phase.s1.tests a = true) :
    (s.hold f).readWord a = if a = f.1.toNat then f.2 &&& storedBits f.1.toNat else s.readWord a := by
  have records (t : State) {c : Nat} (h : c < 32) := (State.readWord_channels t h).1
  obtain ⟨n, hn⟩ : ∃ n, f.1.toNat = n := ⟨_, rfl⟩
  rw [hn] at failed ⊢
  rcases (Phase.tests_s1_iff n).1 failed with scalar | ⟨k, hk, rfl⟩ | ⟨c, hc, rfl⟩
  · rcases (Phase.tests_s1_iff a).1 tested with other | ⟨i, hi, rfl⟩ | ⟨i, hi, rfl⟩
    · unfold State.hold
      rw [hn]
      rcases scalar with rfl | rfl | rfl | rfl | rfl | rfl <;>
        rcases other with rfl | rfl | rfl | rfl | rfl | rfl <;> rfl
    · rw [State.readWord_user _ hi, State.readWord_user _ hi, if_neg (by omega)]
      unfold State.hold
      rw [hn]
      rcases scalar with rfl | rfl | rfl | rfl | rfl | rfl <;> rfl
    · rw [records _ hi, records _ hi, if_neg (by omega)]
      unfold State.hold
      rw [hn]
      rcases scalar with rfl | rfl | rfl | rfl | rfl | rfl <;> rfl
  · rw [State.hold_user hk hn]
    rcases (Phase.tests_s1_iff a).1 tested with other | ⟨i, hi, rfl⟩ | ⟨i, hi, rfl⟩
    · rw [if_neg (by omega)]
      rcases other with rfl | rfl | rfl | rfl | rfl | rfl <;> rfl
    · rw [State.readWord_user _ hi, State.readWord_user _ hi, Vector.getElem?_setIfInBounds]
      by_cases same : i = k
      · simp [same, hk]
      · rw [if_neg (Ne.symm same), if_neg (by omega)]
    · rw [records _ hi, records _ hi, if_neg (by omega)]
  · rw [State.hold_record hc hn]
    rcases (Phase.tests_s1_iff a).1 tested with other | ⟨i, hi, rfl⟩ | ⟨i, hi, rfl⟩
    · rw [if_neg (by omega)]
      rcases other with rfl | rfl | rfl | rfl | rfl | rfl <;> rfl
    · rw [State.readWord_user _ hi, State.readWord_user _ hi, if_neg (by omega)]
    · rw [records _ hi, records _ hi, Capture.channel_setChannel]
      by_cases same : i = c
      · simp [same, hc]
      · rw [if_neg fun h => same h.1, if_neg (by omega)]

/-- Failed words taken one after another: each one holds its own word, every other one what it held. -/
theorem foldl_failed {σ : Type} {step : σ → FailedWord → σ} {read : σ → Nat → Word} {kept : FailedWord → Word}
    {shown : Nat → Prop} {bad : List FailedWord}
    (law : ∀ x, ∀ f ∈ bad, ∀ a, shown a → read (step x f) a = if a = f.1.toNat then kept f else read x a) (x : σ) :
    (∀ a, shown a → (∀ f ∈ bad, f.1.toNat ≠ a) → read (bad.foldl step x) a = read x a) ∧
      ((bad.map (·.1)).Nodup → ∀ f ∈ bad, shown f.1.toNat → read (bad.foldl step x) f.1.toNat = kept f) := by
  induction bad generalizing x with
  | nil => exact ⟨fun _ _ _ => rfl, fun _ _ h => absurd h (by simp)⟩
  | cons g gs ih =>
    obtain ⟨other, same⟩ := ih (fun x f hf => law x f (List.mem_cons_of_mem _ hf)) (step x g)
    have first := law x g (List.mem_cons_self ..)
    refine ⟨fun a ha fresh => ?_, fun apart f hf hs => ?_⟩
    · rw [List.foldl_cons, other a ha fun f hf => fresh f (List.mem_cons_of_mem _ hf), first a ha,
        if_neg (Ne.symm (fresh g (List.mem_cons_self ..)))]
    · simp only [List.map_cons, List.nodup_cons, List.mem_map, not_exists, not_and] at apart
      rw [List.foldl_cons]
      rcases List.mem_cons.1 hf with rfl | hf
      · rw [other _ hs fun h hh e => apart.1 h hh (BitVec.eq_of_toNat_eq e), first _ hs, if_pos rfl]
      · exact same apart.2 f hf hs

/-- The words that S1 tests do not show the self-test engine. -/
theorem State.readWord_withSte (s : State) (ste : SelfTest) {a : Nat} (tested : Phase.s1.tests a = true) :
    State.readWord { s with ste := ste } a = s.readWord a := by
  rcases (Phase.tests_s1_iff a).1 tested with scalar | ⟨i, hi, rfl⟩ | ⟨i, hi, rfl⟩
  · rcases scalar with rfl | rfl | rfl | rfl | rfl | rfl <;> rfl
  · rw [State.readWord_user _ hi, State.readWord_user _ hi]
  · rw [(State.readWord_channels _ hi).1, (State.readWord_channels _ hi).1]

/-- The registers and records after S1 (R152). -/
theorem State.readWord_foldl_hold {bad : List FailedWord} (tested : ∀ f ∈ bad, Phase.s1.tests f.1.toNat = true) (x : State) :
    (∀ a, Phase.s1.tests a = true → (∀ f ∈ bad, f.1.toNat ≠ a) → (bad.foldl State.hold x).readWord a = x.readWord a) ∧
      ((bad.map (·.1)).Nodup → ∀ f ∈ bad, Phase.s1.tests f.1.toNat = true →
        (bad.foldl State.hold x).readWord f.1.toNat = f.2 &&& storedBits f.1.toNat) :=
  foldl_failed (fun _ f hf _ ha => State.readWord_hold (tested f hf) ha) x

theorem defaultSchedule_entry {k : Nat} (h : k < 256) :
    defaultSchedule.entry k = if k < 31 then BitVec.ofNat 32 k else if k = 31 then 0x9F else 0 := by
  simp [Table.entry, defaultSchedule, h, defaultEntry]

/-- A table after S2, as the window shows it whose first word is `base` (R94, R153). -/
theorem filledTable_entry {base k : Nat} (h : k < 256) (bad : List FailedWord) :
    ((∀ f ∈ bad, f.1.toNat ≠ base + k) →
      (filledTable base bad).entry k = if k < 31 then BitVec.ofNat 32 k else if k = 31 then 0x9F else 0) ∧
    ((bad.map (·.1)).Nodup → ∀ f ∈ bad, f.1.toNat = base + k → (filledTable base bad).entry k = f.2) := by
  have law (x : Table) (f : FailedWord) (_ : f ∈ bad) (a : Nat) (ha : base ≤ a ∧ a < base + 256) :
      Table.entry (if base ≤ f.1.toNat ∧ f.1.toNat < base + 256 then x.setIfInBounds (f.1.toNat - base) f.2 else x)
        (a - base) = if a = f.1.toNat then f.2 else x.entry (a - base) := by
    by_cases inside : base ≤ f.1.toNat ∧ f.1.toNat < base + 256
    · rw [if_pos inside, Table.entry_setIfInBounds _ (by omega)]
      by_cases same : a = f.1.toNat
      · rw [if_pos (by omega), if_pos same]
      · rw [if_neg (by omega), if_neg same]
    · rw [if_neg inside, if_neg fun same => inside (by omega)]
  obtain ⟨other, same⟩ := foldl_failed (read := fun t a => Table.entry t (a - base)) (kept := (·.2))
    (shown := fun a => base ≤ a ∧ a < base + 256) law defaultSchedule
  refine ⟨fun fresh => ?_, fun apart f hf at_ => ?_⟩
  · have := other (base + k) ⟨by omega, by omega⟩ fresh
    rw [Nat.add_sub_cancel_left] at this
    exact this.trans (defaultSchedule_entry h)
  · have := same apart f hf ⟨by omega, by omega⟩
    rw [at_, Nat.add_sub_cancel_left] at this
    exact this

/-- A word of the memory of which no byte is listed (log entry 16). -/
theorem Memory.readWord_nil (i : Nat) : Memory.readWord [] i = 0 := by
  rw [Memory.readWord]
  simp only [Memory.read]
  decide

/-- The failed store words as they are written: each at its word of the memory, whole (R154). -/
def storeWords (bad : List FailedWord) : List (Nat × BitVec 4 × Word) := bad.map fun f => (f.1.toNat - 0x4000, 0xF, f.2)

/-- The words that failed S4 are written after those that failed S3 (R154). -/
theorem Store.zero_mem (t : Store) (faults bad : List FailedWord) :
    (t.zero (faults ++ bad)).mem = (Memory.writeAll [] (storeWords faults)).writeAll (storeWords bad) := by
  simp only [Store.zero, Memory.writeAll, storeWords, List.foldl_map, List.foldl_append]

/-- Places counted from the same first word differ when the addresses do. -/
theorem nodup_places {first : Nat} {bad : List FailedWord} (apart : (bad.map (·.1)).Nodup)
    (range : ∀ f ∈ bad, first ≤ f.1.toNat) : (bad.map fun f => f.1.toNat - first).Nodup := by
  refine List.Nodup.map_on (fun f hf g hg e => ?_) apart.of_map
  have := range f hf
  have := range g hg
  exact List.inj_on_of_nodup_map apart hf hg (BitVec.eq_of_toNat_eq (by omega))

theorem storeWords_apart {bad : List FailedWord} (apart : (bad.map (·.1)).Nodup) (range : ∀ f ∈ bad, 0x4000 ≤ f.1.toNat) :
    ((storeWords bad).map (·.1)).Nodup := by
  rw [storeWords, List.map_map]
  exact nodup_places apart range

theorem mem_storeWords {bad : List FailedWord} {f : FailedWord} (h : f ∈ bad) :
    (f.1.toNat - 0x4000, 0xF, f.2) ∈ storeWords bad := List.mem_map.2 ⟨f, h, rfl⟩

/-- A store word that did not fail is not written (R154). -/
theorem storeWords_other {bad : List FailedWord} {w : Nat} (range : ∀ f ∈ bad, 0x4000 ≤ f.1.toNat)
    (fresh : ∀ f ∈ bad, f.1.toNat ≠ 0x4000 + w) : ∀ q ∈ storeWords bad, w ≠ q.1 := by
  intro q hq
  obtain ⟨f, hf, rfl⟩ := List.mem_map.1 hq
  have := range f hf
  have := fresh f hf
  change w ≠ f.1.toNat - 0x4000
  omega

/-- What the end of a phase keeps besides its effect. -/
structure State.PhaseKeeps (v w : State) : Prop where
  ident : w.ident = v.ident
  mem : w.link.mem = v.link.mem
  drain : w.link.drain = v.link.drain
  frame : w.lane.frame = v.lane.frame
  fault : w.lane.fault = v.lane.fault
  enable : w.evu.enable = v.evu.enable
  alert : w.evu.alert = v.evu.alert
  phase : w.ste.phase = v.ste.phase
  units : w.ste.units = v.ste.units
  fails : w.ste.fails = v.ste.fails
  address : w.ste.address = v.ste.address

/-- The words that S1 can find at fault are the only ones that it changes (R152). -/
theorem State.foldl_hold_fixed (v : State) (bad : List FailedWord) :
    v.PhaseKeeps (bad.foldl State.hold v) ∧ (bad.foldl State.hold v).ctl = v.ctl ∧
      (bad.foldl State.hold v).evu = v.evu ∧ (bad.foldl State.hold v).ste = v.ste := by
  refine State.foldl_hold_keeps (P := fun w => v.PhaseKeeps w ∧ w.ctl = v.ctl ∧ w.evu = v.evu ∧ w.ste = v.ste)
    (fun w f h => ?_) v bad ⟨⟨rfl, rfl, rfl, rfl, rfl, rfl, rfl, rfl, rfl, rfl, rfl⟩, rfl, rfl, rfl⟩
  obtain ⟨⟨ident, mem, drain, frame, fault, enable, alert, phase, units, fails, address⟩, ctl, evu, ste⟩ := h
  unfold State.hold
  dsimp only
  repeat' split
  all_goals exact ⟨⟨ident, mem, drain, frame, fault, enable, alert, phase, units, fails, address⟩, ctl, evu, ste⟩

theorem State.phaseEffect_keeps (v : State) (p : Phase) (bad : List FailedWord) : v.PhaseKeeps (v.phaseEffect p bad) := by
  cases p with
  | s1 => exact (v.foldl_hold_fixed bad).1
  | s6 => exact ⟨by simp [State.phaseEffect, State.completeTest], rfl, rfl, rfl, rfl,
      by simp [State.phaseEffect, State.completeTest, State.raise], by simp [State.phaseEffect, State.completeTest, State.raise],
      rfl, rfl, rfl, rfl⟩
  | _ => exact ⟨rfl, rfl, rfl, rfl, rfl, rfl, rfl, rfl, rfl, rfl, rfl⟩

/-- Only S6 changes the operating state, the event queue and the signature (R157, R158). -/
theorem State.phaseEffect_quiet (v : State) {p : Phase} (other : p ≠ .s6) (bad : List FailedWord) :
    (v.phaseEffect p bad).ctl.mode = v.ctl.mode ∧ (v.phaseEffect p bad).evu = v.evu ∧
      (v.phaseEffect p bad).ste.signature = v.ste.signature := by
  cases p with
  | s1 =>
    obtain ⟨-, ctl, evu, ste⟩ := v.foldl_hold_fixed bad
    exact ⟨congrArg Control.mode ctl, evu, congrArg SelfTest.signature ste⟩
  | s6 => exact absurd rfl other
  | _ => exact ⟨rfl, rfl, rfl⟩

/-- Settles O52: the result words by `SelfTest.endPhase`, the failed words by `foldl_failed` and `Memory.writeAll`. -/
theorem failedPhasesAreRecorded : Obligations.FailedPhasesAreRecorded := by
  intro s failed u p bad failedAt fieldBits runs phase done
  have row := exec_selftestPhaseEnd (s := s) runs failed
  rw [State.endPhaseIfDone_of_done runs phase done] at row
  obtain ⟨v, hv⟩ : ∃ v : State, { u with ste := u.ste.endPhase bad } = v := ⟨_, rfl⟩
  have row : exec (.selftestPhaseEnd failed) s = .next (v.phaseEffect p bad) := by
    rw [row, ← hv]
  have tests : ∀ f ∈ bad, p.tests f.1.toNat = true := fun f hf => (List.mem_filter.1 hf).2
  have nobody : ∀ {a}, ¬failedAt a → ∀ f ∈ bad, f.1.toNat ≠ a := fun h f hf e => h ⟨f, hf, e⟩
  have keeps := v.phaseEffect_keeps p bad
  clear_value bad
  have fails : v.ste.fails = if bad = [] then u.ste.fails else u.ste.fails ||| p.failBit := by
    rw [← hv, ← phase]
    simp [SelfTest.endPhase]
  refine ⟨_, row, keeps.phase.trans ?_, keeps.units.trans (hv ▸ rfl), keeps.fails.trans fails, fun same => ?_, fun some_ none => ?_,
    fun other => ?_, fun last => ?_, keeps.ident.trans (hv ▸ rfl), keeps.mem.trans (hv ▸ rfl), keeps.drain.trans (hv ▸ rfl),
    keeps.frame.trans (hv ▸ rfl), keeps.fault.trans (hv ▸ rfl), keeps.enable.trans (hv ▸ rfl), keeps.alert.trans (hv ▸ rfl),
    fun apart => ⟨fun s1 => ?_, fun s2 => ?_, fun s3 => ?_, fun s4 faultsApart range => ?_⟩⟩
  · rw [← hv, ← phase]
    rfl
  · rw [keeps.address, ← hv]
    exact if_pos (by simpa using same)
  · obtain ⟨f, hf, least, low⟩ := lowestAddress_mem some_
    refine ⟨f, hf, ?_, low⟩
    have : v.ste.address = BitVec.ofNat 16 (lowestAddress bad) := by
      rw [← hv]
      exact if_neg (by simp [some_, none])
    rw [keeps.address, this, least]
    exact BitVec.eq_of_toNat_eq (by simp)
  · obtain ⟨mode, evu, signature⟩ := v.phaseEffect_quiet other bad
    exact ⟨mode.trans (hv ▸ rfl), evu.trans (hv ▸ rfl), signature.trans (hv ▸ rfl)⟩
  · rw [keeps.fails, last]
    exact ⟨rfl, rfl, rfl⟩
  · rw [s1] at tests ⊢
    obtain ⟨other, same⟩ := State.readWord_foldl_hold tests v
    refine ⟨fun f hf => ?_, fun a ha fresh => ?_⟩
    · rw [State.phaseEffect, same apart f hf (tests f hf), storedBits_eq_fieldBits (tests f hf)]
    · rw [State.phaseEffect, other a ha (nobody fresh), ← hv, State.readWord_withSte u _ ha]
  · rw [s2]
    refine ⟨rfl, ?_⟩
    intro k hk fill
    obtain ⟨other, same⟩ := filledTable_entry (base := 0x200) hk bad
    obtain ⟨other', same'⟩ := filledTable_entry (base := 0x300) hk bad
    exact ⟨same apart, same' apart, fun fresh => other (nobody fresh), fun fresh => other' (nobody fresh)⟩
  · rw [s3, ← hv]
    exact ⟨rfl, rfl⟩
  · rw [s4] at tests ⊢
    have tested : ∀ f ∈ bad, 0x4000 ≤ f.1.toNat := fun f hf => by
      have := tests f hf
      simp only [Phase.tests, Bool.and_eq_true, decide_eq_true_eq] at this
      exact this.1
    have faults : v.ste.storeFaults = u.ste.storeFaults := hv ▸ rfl
    have mem : (v.phaseEffect .s4 bad).stl.mem =
        (Memory.writeAll [] (storeWords u.ste.storeFaults)).writeAll (storeWords bad) := by
      rw [← faults]
      exact Store.zero_mem ..
    have wf : (Memory.writeAll [] (storeWords u.ste.storeFaults)).wf = true := Memory.writeAll_wf _ rfl
    refine ⟨rfl, rfl, rfl, fun f hf => ?_, fun f hf fresh => ?_, fun w fresh fresh' => ?_⟩ <;> rw [mem]
    · exact Memory.readWord_writeAll_same wf (storeWords_apart apart tested) (mem_storeWords hf)
    · have low := (range f hf).1
      rw [Memory.readWord_writeAll_other wf (storeWords_other tested (nobody (by rwa [show 0x4000 + (f.1.toNat - 0x4000) = f.1.toNat by omega])))]
      exact Memory.readWord_writeAll_same rfl (storeWords_apart faultsApart fun g hg => (range g hg).1) (mem_storeWords hf)
    · rw [Memory.readWord_writeAll_other wf (storeWords_other tested (nobody fresh)),
        Memory.readWord_writeAll_other rfl (storeWords_other (fun g hg => (range g hg).1) fresh'), Memory.readWord_nil]

end

end Sys2Proof.Machine
end

section
/-! SUPPORT. The units that pass while a reply is owed or sent, and its end (O21). -/

namespace Sys2Proof.Machine

set_option Elab.async false

open Sys2Proof (Instr LinkUnit Bank)

section
variable {s v : State} {r : Reply}

/-! ## What the node's own events and the early steps keep of the link interface -/

theorem State.hold_units (s : State) (f : FailedWord) : (s.hold f).link.units = s.link.units := by
  unfold State.hold
  dsimp only
  repeat' split
  all_goals rfl

theorem State.endPhaseIfDone_units (s : State) (failed : List FailedWord) :
    (s.endPhaseIfDone failed).link.units = s.link.units := by
  rcases s.endPhaseIfDone_cases failed with ⟨-, -, e⟩ | ⟨-, e⟩ <;> rw [e]
  unfold State.endPhase
  cases s.ste.phase with
  | s1 => exact State.foldl_hold_keeps (P := fun u => u.link.units = s.link.units) (fun u f h => (u.hold_units f).trans h) _ _ rfl
  | _ => rfl

/-- No unit is counted at the end of an instant at which no request waits. -/
theorem State.close_units (h : s.link.rx.complete = false) : s.close.link.units = s.link.units := by
  rcases s.close_cases with ⟨-, e⟩ | ⟨m, -, e⟩ <;> rw [e]
  change (s.takeOwn 90).link.units = s.link.units
  rw [State.takeOwn_all, State.endPhaseIfDone_units, State.judgeWaiting_of_incomplete (by simpa using h)]
  simp

/-- Reset causes and a short run end without a change of the receive state, and count nothing. -/
theorem State.earlySteps_idle_link (v : State) (mid : BitVec 4) :
    (v.earlySteps .idle mid).link.rx = (v.replyUnit .idle).link.rx ∧
      (v.earlySteps .idle mid).link.units = (v.replyUnit .idle).link.units ∧
      (v.link.beacons = 0 → (v.earlySteps .idle mid).link.beacons = 0) := by
  obtain ⟨w, hw⟩ : ∃ w, v.replyUnit .idle = w := ⟨_, rfl⟩
  have beacons : w.link.beacons = v.link.beacons := by rw [← hw, State.replyUnit_beacons]
  have early : v.earlySteps .idle mid = (w.endCauses .idle mid).afterRun := by simp [State.earlySteps, hw, State.afterRun]
  have ends := (w.endCauses .idle mid).runEnds_afterRun
  have caused : (w.endCauses .idle mid).link.rx = w.link.rx ∧ (w.endCauses .idle mid).link.units = w.link.units := by
    rcases w.endCauses_cases .idle mid with ⟨-, e⟩ | ⟨-, -, e⟩ <;> rw [e]
    · simp
    · exact ⟨rfl, rfl⟩
  rw [early, hw, ends.link]
  exact ⟨caused.1, caused.2, fun _ => rfl⟩

/-- The end of a reply counts nothing, and leaves the link interface in LISTEN (R3). -/
theorem State.endReply_link (v : State) (r : Reply) :
    (v.endReply r).link.rx = .listen ∧ (v.endReply r).link.units = v.link.units := by
  rcases v.endReply_cases r with ⟨-, e⟩ | ⟨-, e⟩ | ⟨-, e⟩ <;> rw [e] <;> exact ⟨rfl, rfl⟩

/-! ## A unit of a reply -/

/-- The receive state is that of a reply. -/
def RxState.replying (rx : RxState) : Bool := rx.reply?.isSome

theorem RxState.replying_iff (rx : RxState) : rx.replying = true ↔ ∃ p, rx.reply? = some p := Option.isSome_iff_exists

theorem RxState.of_replying {rx : RxState} (h : rx.replying = true) :
    rx.complete = false ∧ rx.stalled = false ∧ rx.inRequest = false ∧ rx.next.inRequest = false := by
  cases rx with
  | listen | header | data => exact nomatch h
  | ackWait r k | token r k | readWait r k | readData r k =>
    refine ⟨rfl, rfl, rfl, ?_⟩
    simp only [RxState.next]
    split_ifs <;> rfl

/-- The node at which the unit of a reply ends. -/
def State.atUnit (s : State) : State := s.forUnit.openUnit (s.forUnit.unitPlace .idle)

/-- What the unit of a reply does before step 7: the waits and octets move on, or the reply ends (R13). -/
theorem State.replyUnit_of_replying (h : v.link.rx.replying = true) :
    v.replyUnit .idle = match v.link.rx.endingReply with | some r => v.endReply r | none => v.withRx v.link.rx.next := by
  obtain ⟨-, -, outside, -⟩ := RxState.of_replying h
  cases ending : v.link.rx.endingReply <;> simp [State.replyUnit, RxState.endedBy, RxState.cutBy, ending, outside]

/-- A unit of a reply is an IDLE or an octet of it, which acts in the early steps (R13). -/
theorem State.passUnit_of_replying (h : s.link.rx.replying = true) (mid : BitVec 4) :
    s.passUnit mid = s.atUnit.earlySteps .idle mid ∧ s.atUnit.link.rx = s.link.rx ∧
      s.atUnit.link.units = s.link.units + 1 ∧ s.atUnit.link.beacons = s.link.beacons := by
  obtain ⟨incomplete, runs, outside, after⟩ := RxState.of_replying h
  have rx : s.forUnit.link.rx = s.link.rx := State.forUnit_rx incomplete
  have same : s.atUnit.link.rx = s.link.rx := by rw [State.atUnit, State.openUnit_rx (by rw [rx]; exact incomplete), rx]
  have counted : s.atUnit.link.units = s.link.units + 1 ∧ s.atUnit.link.beacons = s.link.beacons := by
    obtain ⟨x, m, from_, -, e⟩ := s.openUnit_forUnit (s.forUnit.unitPlace .idle)
    rw [State.atUnit, e]
    rcases from_ with ⟨rfl, -⟩ | ⟨rfl, -⟩
    · exact ⟨rfl, rfl⟩
    · exact ⟨congrArg (· + 1) (State.close_units incomplete), s.close_beacons⟩
  refine ⟨?_, same, counted⟩
  have unlinked (y : State) (h : y.link.rx.inRequest = false) (p : Nat) : y.linkStep .idle p = y := by
    simp [State.linkStep, RxState.cutBy, h]
  rcases s.passUnit_cases mid with ⟨stalled, -⟩ | ⟨-, e⟩
  · simp [rx, runs] at stalled
  · rw [e, rx, show s.link.rx.filler = .idle by simp [RxState.filler, outside]]
    refine unlinked _ ?_ _
    change (s.atUnit.earlySteps .idle mid).link.rx.inRequest = false
    rw [(State.earlySteps_idle_link _ _).1, State.replyUnit_of_replying (by rw [same]; exact h), same]
    split
    · rw [(State.endReply_link _ _).1]
      rfl
    · exact after

/-- A unit that does not end the reply moves it on (R13). -/
theorem State.passUnit_moves (h : s.link.rx.replying = true) (goes : s.link.rx.endingReply = none) (mid : BitVec 4) :
    (s.passUnit mid).link.rx = s.link.rx.next ∧ (s.passUnit mid).link.units = s.link.units + 1 ∧
      (s.link.beacons = 0 → (s.passUnit mid).link.beacons = 0) := by
  obtain ⟨e, rx, units, beacons⟩ := State.passUnit_of_replying h mid
  obtain ⟨rx', units', beacons'⟩ := s.atUnit.earlySteps_idle_link mid
  have moved : s.atUnit.replyUnit .idle = s.atUnit.withRx s.link.rx.next := by
    rw [State.replyUnit_of_replying (by rw [rx]; exact h), rx, goes]
  rw [e, rx', units', moved]
  exact ⟨rfl, units, fun zero => beacons' (beacons.trans zero)⟩

/-! ## Units of a reply in a row -/

theorem State.passUnits_add (a b : Nat) (s : State) : s.passUnits (a + b) = (s.passUnits a).passUnits b := by
  induction a generalizing s with
  | zero => rw [Nat.zero_add]; rfl
  | succ a ih => rw [Nat.succ_add, State.passUnits_succ, State.passUnits_succ, ih]

/-- `t` is the node `s` when `n` units of its reply have passed, with the receive state that they have led to. -/
structure State.Moved (s : State) (n : Nat) (rx : RxState) (t : State) : Prop where
  rx : t.link.rx = rx
  units : t.link.units = s.link.units + n
  beacons : s.link.beacons = 0 → t.link.beacons = 0

theorem State.Moved.refl (s : State) : s.Moved 0 s.link.rx s := ⟨rfl, rfl, fun h => h⟩

theorem State.Moved.trans {a b : Nat} {rx rx' : RxState} (h : s.Moved a rx (s.passUnits a))
    (g : (s.passUnits a).Moved b rx' ((s.passUnits a).passUnits b)) : s.Moved (a + b) rx' (s.passUnits (a + b)) := by
  rw [State.passUnits_add]
  exact ⟨g.rx, by rw [g.units, h.units, Nat.add_assoc], fun zero => g.beacons (h.beacons zero)⟩

theorem State.moved_one (h : s.link.rx.replying = true) (goes : s.link.rx.endingReply = none) :
    s.Moved 1 s.link.rx.next (s.passUnits 1) := by
  obtain ⟨rx, units, beacons⟩ := State.passUnit_moves h goes 0
  exact ⟨rx, units, beacons⟩

/-- Units that lead from one receive state of a reply to the next in a row. -/
theorem State.moved_steps {f : Nat → RxState} {n : Nat} (from_ : s.link.rx = f 0)
    (steps : ∀ i < n, (f i).replying = true ∧ (f i).endingReply = none ∧ (f i).next = f (i + 1)) :
    s.Moved n (f n) (s.passUnits n) := by
  induction n with
  | zero => exact from_ ▸ State.Moved.refl s
  | succ n ih =>
    have moved := ih fun i hi => steps i (by omega)
    obtain ⟨replying, goes, next⟩ := steps n (by omega)
    rw [← next, ← moved.rx]
    exact moved.trans (State.moved_one (by rw [moved.rx]; exact replying) (by rw [moved.rx]; exact goes))

theorem State.moved_ackWait {k n : Nat} (rx : s.link.rx = .ackWait r k) (lacks : k + (n + 1) = r.ackDelay) :
    s.Moved (n + 1) (.token r 0) (s.passUnits (n + 1)) := by
  have waits : s.Moved n (.ackWait r (k + n)) (s.passUnits n) :=
    State.moved_steps (f := fun i => .ackWait r (k + i)) rx fun i hi => ⟨rfl, rfl, if_neg (by omega)⟩
  have last : (RxState.ackWait r (k + n)).next = .token r 0 := if_pos (by omega)
  refine waits.trans ?_
  rw [← last, ← waits.rx]
  exact State.moved_one (by rw [waits.rx]; rfl) (by rw [waits.rx]; rfl)

theorem State.moved_readWait {k n : Nat} (rx : s.link.rx = .readWait r k) (lacks : k + (n + 1) = r.readDelay) :
    s.Moved (n + 1) (.readData r 0) (s.passUnits (n + 1)) := by
  have waits : s.Moved n (.readWait r (k + n)) (s.passUnits n) :=
    State.moved_steps (f := fun i => .readWait r (k + i)) rx fun i hi => ⟨rfl, rfl, if_neg (by omega)⟩
  have last : (RxState.readWait r (k + n)).next = .readData r 0 := if_pos (by omega)
  refine waits.trans ?_
  rw [← last, ← waits.rx]
  exact State.moved_one (by rw [waits.rx]; rfl) (by rw [waits.rx]; rfl)

/-- The octets of the token (R11). -/
theorem State.moved_token {k n : Nat} (rx : s.link.rx = .token r k) (within : k + n < 3) :
    s.Moved n (.token r (k + n)) (s.passUnits n) :=
  State.moved_steps (f := fun i => .token r (k + i)) rx fun i hi =>
    ⟨rfl, by simp [RxState.endingReply]; omega, if_pos (by omega)⟩

/-- The token of a reply with read data, to its end (R13). -/
theorem State.moved_token_end {k n : Nat} (rx : s.link.rx = .token r k) (lacks : k + (n + 1) = 3) (data : r.data.isSome = true) :
    s.Moved (n + 1) (.readWait r 0) (s.passUnits (n + 1)) := by
  have sends := State.moved_token (n := n) rx (by omega)
  have last : (RxState.token r (k + n)).next = .readWait r 0 := by
    rw [RxState.next, if_neg (by omega), if_pos data]
  refine sends.trans ?_
  rw [← last, ← sends.rx]
  exact State.moved_one (by rw [sends.rx]; rfl)
    (by rw [sends.rx]; simp [RxState.endingReply, Option.isNone_iff_eq_none, Option.isSome_iff_ne_none.1 data])

/-- The octets of the read data (R13). -/
theorem State.moved_readData {k n : Nat} {d : List Octet} (rx : s.link.rx = .readData r k) (data : r.data = some d)
    (within : k + n < d.length) : s.Moved n (.readData r (k + n)) (s.passUnits n) :=
  State.moved_steps (f := fun i => .readData r (k + i)) rx fun i hi =>
    ⟨rfl, by simp [RxState.endingReply, data]; omega, by rw [RxState.next, data]; exact if_pos (by simp; omega)⟩

/-! ## The end of a reply -/

/-- The last part of a reply is being sent, with one octet to come (R13). -/
theorem RxState.endingReply_of_last {rx : RxState} (h : (rx = .token r 2 ∧ r.data = none) ∨
    ∃ d k, rx = .readData r k ∧ r.data = some d ∧ k + 1 = d.length) : rx.replying = true ∧ rx.endingReply = some r := by
  rcases h with ⟨rfl, data⟩ | ⟨d, k, rfl, data, last⟩
  · exact ⟨rfl, by simp [RxState.endingReply, data]⟩
  · exact ⟨rfl, by simp [RxState.endingReply, data]; omega⟩

/-- Settles O21: the units of each part of a reply, then its end at the early steps of the last unit. -/
theorem replyIsSentToItsEnd : Obligations.ReplyIsSentToItsEnd := by
  refine ⟨fun s r k => ⟨fun rx less => ?_, fun rx less data wait => ?_, fun rx less => ?_⟩, fun s r k n sends => ?_⟩
  · intro t
    obtain ⟨n, hn⟩ : ∃ n, r.ackDelay - k = n + 1 := ⟨r.ackDelay - k - 1, by omega⟩
    have moved := State.moved_ackWait (n := n) rx (by omega)
    rw [← hn] at moved
    have before : s.close.link.rx.beforeToken = r.ackDelay - k := by rw [State.close_rx (by rw [rx]; rfl), rx]; rfl
    refine ⟨?_, moved.rx, moved.units⟩
    change execAckTokenSend s = _
    rw [execAckTokenSend, before]
    exact if_neg (by omega)
  · intro t
    obtain ⟨a, ha⟩ : ∃ a, 3 - k = a + 1 := ⟨3 - k - 1, by omega⟩
    obtain ⟨b, hb⟩ : ∃ b, r.readDelay = b + 1 := ⟨r.readDelay - 1, by omega⟩
    have token := State.moved_token_end (n := a) rx (by omega) data
    have moved := token.trans (State.moved_readWait (n := b) token.rx (by omega))
    rw [← ha, ← hb] at moved
    have before : s.close.link.rx.beforeReadData = 3 - k + r.readDelay := by
      rw [State.close_rx (by rw [rx]; rfl), rx]
      exact if_pos data
    refine ⟨?_, moved.rx, moved.units⟩
    change execReadDataSend s = _
    rw [execReadDataSend, before]
    exact if_neg (by omega)
  · intro t
    obtain ⟨n, hn⟩ : ∃ n, r.readDelay - k = n + 1 := ⟨r.readDelay - k - 1, by omega⟩
    have moved := State.moved_readWait (n := n) rx (by omega)
    rw [← hn] at moved
    have before : s.close.link.rx.beforeReadData = r.readDelay - k := by rw [State.close_rx (by rw [rx]; rfl), rx]; rfl
    refine ⟨?_, moved.rx, moved.units⟩
    change execReadDataSend s = _
    rw [execReadDataSend, before]
    exact if_neg (by omega)
  · intro u w t
    obtain ⟨x, hx⟩ : ∃ x, s.passUnits n = x := ⟨_, rfl⟩
    obtain ⟨rx, moved, before, replying, ending⟩ : ∃ rx, s.Moved n rx x ∧ s.close.link.rx.beforeEnd = n + 1 ∧
        rx.replying = true ∧ rx.endingReply = some r := by
      rw [← hx]
      rcases sends with ⟨rx, data, last⟩ | ⟨d, rx, data, last⟩
      · refine ⟨_, State.moved_token rx (by omega), ?_, RxState.endingReply_of_last (.inl ⟨by rw [show k + n = 2 by omega], data⟩)⟩
        rw [State.close_rx (by rw [rx]; rfl), rx, RxState.beforeEnd, data]
        change 3 - k = n + 1
        omega
      · refine ⟨_, State.moved_readData rx data (by omega), ?_,
          RxState.endingReply_of_last (.inr ⟨d, k + n, rfl, data, by omega⟩)⟩
        rw [State.close_rx (by rw [rx]; rfl), rx, RxState.beforeEnd, data]
        change d.length - k = n + 1
        omega
    obtain ⟨e, same, units, beacons⟩ := State.passUnit_of_replying (by rw [moved.rx]; exact replying) 0
    have shown : t = w.earlySteps .idle 0 := by
      change s.passUnits (n + 1) = _
      rw [State.passUnits_add, hx]
      simp only [w, u, hx]
      exact e
    have ended : w.link.rx.endedBy .idle = some r := by
      simp only [w, u, hx]
      exact (congrArg RxState.endingReply (same.trans moved.rx)).trans ending
    have reply : w.replyUnit .idle = w.endReply r := by
      rw [State.replyUnit_of_replying (by simp only [w, u, hx]; exact (congrArg RxState.replying (same.trans moved.rx)).trans replying),
        show w.link.rx.endingReply = some r from ended]
    obtain ⟨rx', units', -⟩ := w.earlySteps_idle_link 0
    have row : exec .replyEnd s = .next t := by
      change execReplyEnd s = _
      rw [execReplyEnd, before]
      exact if_neg (by omega)
    refine ⟨row, ?_, ?_, fun after zero => ?_, fun after => ?_⟩
    · rw [shown, rx', reply, (w.endReply_link r).1]
    · rw [shown, units', reply, (w.endReply_link r).2]
      simp only [w, u, hx]
      rw [show (x.forUnit.openUnit (x.forUnit.unitPlace .idle)).link.units = x.link.units + 1 from units, moved.units]
    · have none : w.link.beacons = 0 := by
        simp only [w, u, hx]
        exact beacons.trans (moved.beacons zero)
      obtain ⟨now, early⟩ := State.earlySteps_of_quiet ended after none 0
      rw [shown, early]
      exact ⟨rfl, rfl, rfl, fun c hc => State.goQuiet_channel (w.withRx .listen) hc⟩
    · obtain ⟨b, now, early, -⟩ := State.earlySteps_of_soft ended after (fun e => nomatch e) 0
      rw [shown, early]
      exact ⟨{ State.beginReset_resetTo (w.withRx .listen) .soft with }, rfl⟩

end

end Sys2Proof.Machine
end

section
/-! SUPPORT. What moves the node: its own events, a link unit, a command (O11). -/

namespace Sys2Proof.Machine

set_option Elab.async false

open Sys2Proof (Instr LinkUnit Bank)

section
variable {s v x : State} {u : LinkUnit} {mid : BitVec 4}

/-! ## A unit, stage by stage -/

theorem State.acts_consistent (h : s.ModesConsistent) (acts : s.Acts v) : v.ModesConsistent :=
  acts.keep (P := State.ModesConsistent) (fun _ _ act => act.keeps_modes) h

/-- The operating state when the unit has ended a reply, or has not (R48, R51). -/
theorem State.ModesConsistent.replyUnit_cases (h : v.ModesConsistent) (u : LinkUnit) :
    (v.replyUnit u).ctl = v.ctl ∨
      (∃ r, v.link.rx.endedBy u = some r ∧ r.after = .enterQuiet ∧ v.ctl.mode = .setup ∧
        (v.replyUnit u).ctl = { v.ctl with mode := .quiet }) ∨
      (∃ r, v.link.rx.endedBy u = some r ∧ r.after = .softReset ∧ (v.ctl.mode = .setup ∨ v.ctl.mode = .run) ∧
        (v.replyUnit u).ctl.mode = .reset ∧ (v.replyUnit u).ctl.softStep = some 16) := by
  unfold State.replyUnit
  split
  · rename_i r ended
    obtain ⟨n, reply⟩ := RxState.reply?_of_endedBy ended
    have legal := (State.endingLegal_iff v).1 h.ending r n reply
    split_ifs
    · exact .inl rfl
    · rcases v.endReply_cases r with ⟨-, e⟩ | ⟨after, e⟩ | ⟨after, e⟩ <;> rw [e]
      · exact .inl rfl
      · exact .inr (.inl ⟨r, ended, after, legal.1 after, rfl⟩)
      · exact .inr (.inr ⟨r, ended, after, legal.2 after, rfl, rfl⟩)
  · split_ifs <;> exact .inl rfl

/-- What moves the node `v` to an operating state with the unit `u` (R43 to R45, R48, R50, R51). -/
def State.UnitMoves (v : State) (u : LinkUnit) (mode : Mode) : Prop :=
  let ends : AfterReply → Prop := fun a => ∃ r, v.link.rx.endedBy u = some r ∧ r.after = a
  (mode = .reset ∧ u = .beacon ∧ v.link.beacons = 63) ∨
    (mode = .reset ∧ (v.ctl.mode = .setup ∨ v.ctl.mode = .run) ∧ ends .softReset) ∨
    (v.ctl.mode = .reset ∧ mode = .selftest ∧ v.ctl.rstnLow = false ∧
      (v.ctl.softStep = none ∨ v.ctl.softStep = some 0) ∧ (u ≠ .beacon ∨ v.link.beacons.toNat < 63) ∧
      ((u ≠ .beacon ∧ 64 ≤ v.link.beacons.toNat) ∨ v.ctl.softStep = some 0)) ∨
    (v.ctl.mode = .quiet ∧ mode = .setup ∧ u ≠ .beacon ∧ 4 ≤ v.link.beacons.toNat ∧ v.link.beacons.toNat ≤ 7) ∨
    (v.ctl.mode = .setup ∧ mode = .quiet ∧ ends .enterQuiet)

/-- The end of a run moves a node in QUIET only, which a run of 4 to 7 units wakes (R50). -/
theorem State.afterRun_mode_cases (x : State) :
    x.afterRun.ctl.mode = x.ctl.mode ∨
      (x.ctl.mode = .quiet ∧ x.afterRun.ctl.mode = .setup ∧ 4 ≤ x.link.beacons.toNat ∧ x.link.beacons.toNat ≤ 7) := by
  unfold State.afterRun
  split_ifs
  · rcases x.endRun_cases with ⟨quiet, four, seven, e⟩ | ⟨-, -, e⟩ | e <;> rw [e]
    · exact .inr ⟨quiet, rfl, four, seven⟩
    · exact .inl (by simp)
    · exact .inl rfl
  · exact .inl rfl

/-- A unit other than BEACON, after the reply that it may have ended (R55, R54). -/
theorem State.earlySteps_of_other (other : u ≠ .beacon) (v : State) (mid : BitVec 4) :
    v.earlySteps u mid = ((v.replyUnit u).endCauses u mid).afterRun := by
  simp [State.earlySteps, State.afterRun, other]

/-- In RESET the end of a run changes nothing of the operating state. -/
theorem State.afterRun_mode_of_awake (awake : x.ctl.mode ≠ .quiet) : x.afterRun.ctl.mode = x.ctl.mode := by
  rcases x.afterRun_mode_cases with e | ⟨quiet, -⟩
  · exact e
  · exact absurd quiet awake

/-- Reset causes end with the unit, and the node leaves RESET when none is left (R44). -/
theorem State.endCauses_mode_cases (x : State) (u : LinkUnit) (mid : BitVec 4) :
    (x.endCauses u mid).ctl.mode = x.ctl.mode ∨
      (x.ctl.mode = .reset ∧ (x.endCauses u mid).ctl.mode = .selftest ∧ x.ctl.rstnLow = false ∧
        (x.ctl.softStep = none ∨ x.ctl.softStep = some 0) ∧ (u ≠ .beacon ∨ x.link.beacons.toNat < 64) ∧
        ((u ≠ .beacon ∧ 64 ≤ x.link.beacons.toNat) ∨ x.ctl.softStep = some 0)) := by
  rw [State.endCauses_eq]
  split
  · rename_i ends
    rcases (x.causesEnded u).tryLeaveReset_cases mid with ⟨reset, free, e⟩ | ⟨-, e⟩ <;> rw [e]
    · obtain ⟨low, short, step⟩ := (x.causesEnded u).resetHeld_eq_false_iff.1 free
      refine .inr ⟨reset, rfl, low, ?_, ?_, ends⟩
      · by_cases last : x.ctl.softStep = some 0
        · exact .inr last
        · exact .inl ((if_neg last).symm.trans step)
      · by_contra h
        rw [not_or, not_not] at h
        refine h.2 ?_
        have run : (x.causesEnded u).link.beacons = x.link.beacons := if_neg fun g => g.1 h.1
        rwa [run] at short
    · exact .inl rfl
  · exact .inl rfl

/-- What a unit does before step 7 moves the node only as listed (R42). -/
theorem State.ModesConsistent.earlySteps_moves (h : v.ModesConsistent) (u : LinkUnit) (mid : BitVec 4) :
    (v.earlySteps u mid).ctl.mode = v.ctl.mode ∨ v.UnitMoves u (v.earlySteps u mid).ctl.mode := by
  obtain ⟨a, ha⟩ : ∃ a, v.replyUnit u = a := ⟨_, rfl⟩
  have beacons : a.link.beacons = v.link.beacons := by rw [← ha, State.replyUnit_beacons]
  have replies := h.replyUnit_cases u
  rw [ha] at replies
  by_cases beacon : u = .beacon
  · subst beacon
    rw [State.earlySteps_beacon, ha]
    rcases a.countBeacon_cases with ⟨last, e⟩ | ⟨other, e⟩
    · have run : 64 ≤ a.countBeacon.link.beacons.toNat := by
        rw [e]
        simp [State.beginReset, Link.reset, last, satInc_eight]
      rw [(State.endCauses_beacon_of_run run mid).1]
      exact .inr (.inl ⟨by rw [e]; rfl, rfl, beacons ▸ last⟩)
    · have counted : a.countBeacon = a.withBeacons (satInc a.link.beacons) := e
      rw [counted]
      have causes := (a.withBeacons (satInc a.link.beacons)).endCauses_mode_cases .beacon mid
      rcases replies with ctl | ⟨r, ended, after, setup, ctl⟩ | ⟨r, ended, after, from_, reset, step⟩
      · rcases causes with e | ⟨reset, mode, low, step, run, ends⟩
        · exact .inl (e.trans (congrArg Control.mode ctl))
        · refine .inr (.inr (.inr (.inl ⟨?_, mode, ?_, ?_, .inr ?_, .inr ?_⟩)))
          · rw [← ctl]; exact reset
          · rw [← ctl]; exact low
          · rw [← ctl]; exact step
          · have short := run.resolve_left fun h => h rfl
            change (satInc a.link.beacons).toNat < 64 at short
            rw [toNat_satInc_eight, beacons] at short
            have : v.link.beacons.toNat ≠ 63 := fun e => other (beacons.trans (BitVec.eq_of_toNat_eq e))
            omega
          · rw [← ctl]
            exact ends.resolve_left fun h => h.1 rfl
      · rcases causes with e | ⟨reset, -⟩
        · refine .inr (.inr (.inr (.inr (.inr ⟨setup, ?_, r, ended, after⟩))))
          rw [e]
          exact congrArg Control.mode ctl
        · exact nomatch (congrArg Control.mode ctl).symm.trans reset
      · refine .inr (.inr (.inl ⟨?_, from_, r, ended, after⟩))
        rcases causes with e | ⟨-, -, -, other, -⟩
        · rw [e]; exact reset
        · change a.ctl.softStep = none ∨ a.ctl.softStep = some 0 at other
          simp [step] at other
  · rw [State.earlySteps_of_other beacon, ha]
    have causes := a.endCauses_mode_cases u mid
    obtain ⟨c, hc⟩ : ∃ c, a.endCauses u mid = c := ⟨_, rfl⟩
    rw [hc] at causes ⊢
    have run := c.afterRun_mode_cases
    rcases replies with ctl | ⟨r, ended, after, setup, ctl⟩ | ⟨r, ended, after, from_, reset, step⟩
    · rcases causes with e | ⟨reset, mode, low, step, -, ends⟩
      · rcases run with same | ⟨quiet, woken, four, seven⟩
        · exact .inl (same.trans (e.trans (congrArg Control.mode ctl)))
        · have still : v.ctl.mode = .quiet := by rw [← ctl, ← e]; exact quiet
          obtain ⟨-, short, none⟩ := v.resetHeld_eq_false_iff.1 (h.core.free (by simp [still]))
          have same : c = a := by
            rw [← hc, State.endCauses_none (.inr (by rw [beacons]; exact short)) (by rw [ctl, none]; exact fun e => nomatch e)]
          rw [same, beacons] at four seven
          exact .inr (.inr (.inr (.inr (.inl ⟨still, woken, beacon, four, seven⟩))))
      · rw [State.afterRun_mode_of_awake (by simp [mode])]
        exact .inr (.inr (.inr (.inl ⟨by rw [← ctl]; exact reset, mode, by rw [← ctl]; exact low, by rw [← ctl]; exact step,
          .inl beacon, by rw [← ctl, ← beacons]; exact ends⟩)))
    · rcases causes with e | ⟨reset, -⟩
      · rcases run with same | ⟨-, woken, -⟩
        · refine .inr (.inr (.inr (.inr (.inr ⟨setup, ?_, r, ended, after⟩))))
          rw [same, e]
          exact congrArg Control.mode ctl
        · exact .inl (woken.trans setup.symm)
      · exact nomatch (congrArg Control.mode ctl).symm.trans reset
    · refine .inr (.inr (.inl ⟨?_, from_, r, ended, after⟩))
      rcases causes with e | ⟨-, -, -, other, -⟩
      · rw [State.afterRun_mode_of_awake (by rw [e, reset]; decide), e, reset]
      · simp [step] at other

/-- An instant is open that has not come to the link's step. -/
def State.BeforeLink (s : State) : Prop := ∃ m, s.now = some m ∧ m.place < 70

theorem State.BeforeLink.of_now {t : State} (h : s.BeforeLink)
    (now : t.now = s.now ∨ ∃ p < 70, t.now = s.now.map (·.upTo p)) : t.BeforeLink := by
  obtain ⟨m, at_, early⟩ := h
  rcases now with e | ⟨p, hp, e⟩ <;> rw [State.BeforeLink, e, at_]
  · exact ⟨m, rfl, early⟩
  · exact ⟨_, rfl, by simp; omega⟩

/-- What a unit does at steps 1 and 2 comes before the link's step of its instant. -/
theorem State.BeforeLink.earlySteps (h : v.BeforeLink) (u : LinkUnit) (mid : BitVec 4) : (v.earlySteps u mid).BeforeLink := by
  have replies : (v.replyUnit u).now = v.now := by
    rcases v.replyUnit_cases u with ⟨rx, e⟩ | ⟨r, e⟩ <;> rw [e]
    · rfl
    · rcases v.endReply_cases r with ⟨-, e⟩ | ⟨-, e⟩ | ⟨-, e⟩ <;> rw [e] <;> rfl
  have counts (x : State) : x.countBeacon.now = x.now := by
    rcases x.countBeacon_cases with ⟨-, e⟩ | ⟨-, e⟩ <;> rw [e] <;> rfl
  have causes {x : State} (h : x.BeforeLink) : (x.endCauses u mid).BeforeLink := by
    refine h.of_now ?_
    rw [State.endCauses_eq]
    split
    · refine .inr ⟨13, by decide, ?_⟩
      rcases (x.causesEnded u).tryLeaveReset_cases mid with ⟨-, -, e⟩ | ⟨-, e⟩ <;> (rw [e]; rfl)
    · exact .inl rfl
  by_cases beacon : u = .beacon
  · subst beacon
    rw [State.earlySteps_beacon]
    exact causes (h.of_now (.inl ((counts _).trans replies)))
  · rw [State.earlySteps_of_other beacon]
    refine (causes (h.of_now (.inl replies))).of_now ?_
    exact ((v.replyUnit u).endCauses u mid).runEnds_afterRun.now.imp_right fun e => ⟨20, by decide, e⟩

/-- The link's step of a unit changes no operating state (R3, R4, R25). -/
theorem State.linkStep_ctl (h : v.BeforeLink) (u : LinkUnit) (p : Nat) : (v.linkStep u p).ctl = v.ctl := by
  obtain ⟨m, now, early⟩ := h
  have reached : (v.reach 70).ctl = v.ctl := by
    rw [State.reach_seventy now early]
    simp
  have begun (x : State) : x.beginRequest.ctl = x.ctl := by
    unfold State.beginRequest
    split <;> rfl
  rcases v.linkStep_cases u p with ⟨-, e⟩ | ⟨-, -, -, e⟩ | ⟨-, -, -, e⟩ | ⟨-, -, e⟩ <;> rw [e]
  · split <;> simp [reached]
  · rw [begun, reached]
  · exact begun v

theorem State.beforeLink_openUnit {p : Nat} (hp : p ≤ 70) (s : State) : (s.openUnit p).BeforeLink := State.openUnit_now hp s

/-! ## An executed request -/

/-- What the executed request `r` moves the node `u` to (R46 to R48, R51, R52). -/
def State.OrderMoves (u : State) (c : Instr) (broadcast : Prop) (mode : Mode) : Prop :=
  (mode = .reset ∧ (u.ctl.mode = .setup ∨ u.ctl.mode = .run) ∧ (∃ b, c = .softReset b) ∧ broadcast) ∨
    (u.ctl.mode = .setup ∧ mode = .selftest ∧ ∃ b, c = .runSelftest b) ∨
    (u.ctl.mode = .setup ∧ mode = .run ∧ ∃ b, c = .startRun b) ∨
    (u.ctl.mode = .run ∧ mode = .setup ∧ ∃ b, c = .stopRun b) ∨
    (u.ctl.mode = .setup ∧ mode = .quiet ∧ (∃ b, c = .enterQuiet b) ∧ broadcast)

/-- The effect of a row moves the node by the five orders only. -/
theorem effectOf_moves {c : Instr} {r : Request} {u w : State} (serves : rowServes c r.hdr) (passes : u.laterSteps r = none)
    (ctl : w.ctl = u.ctl) :
    (effectOf c r w).ctl.mode = u.ctl.mode ∨
      u.OrderMoves c (r.hdr.addressing = .broadcast) (effectOf c r w).ctl.mode := by
  have legal {o : Order} (carries : r.hdr.carries o) := State.order_legal passes ((r.hdr.order_eq_some_iff o).2 carries)
  have mode : w.ctl.mode = u.ctl.mode := congrArg Control.mode ctl
  cases c with
  | startRun b =>
    rcases legal serves with ⟨setup, -⟩ | ⟨-, no⟩
    · exact .inr (.inr (.inr (.inl ⟨setup, rfl, b, rfl⟩)))
    · exact nomatch no
  | stopRun b =>
    rcases legal serves with ⟨-, no, -⟩ | ⟨run, -⟩
    · exact absurd rfl no
    · have stops : (applyStopRun r w).ctl.mode = w.ctl.mode ∨ (applyStopRun r w).ctl.mode = .setup := by
        simp only [applyStopRun, State.stopNow, State.stopAtFrame]
        split_ifs <;> simp
      rcases stops with e | e
      · exact .inl (e.trans mode)
      · exact .inr (.inr (.inr (.inr (.inl ⟨run, e, b, rfl⟩))))
  | enterQuiet b =>
    rcases legal serves with ⟨setup, -⟩ | ⟨-, no⟩
    · by_cases cast : r.hdr.addressing = .broadcast
      · refine .inr (.inr (.inr (.inr (.inr ⟨setup, ?_, ⟨b, rfl⟩, cast⟩))))
        simp [effectOf, applyEnterQuiet, cast, State.goQuiet]
      · refine .inl (Eq.trans ?_ mode)
        simp [effectOf, applyEnterQuiet, cast]
    · exact nomatch no
  | softReset b =>
    by_cases cast : r.hdr.addressing = .broadcast
    · refine .inr (.inl ⟨?_, (legal serves).imp (·.1) (·.1), ⟨b, rfl⟩, cast⟩)
      simp [effectOf, applySoftReset, cast, State.beginReset, Control.reset]
    · refine .inl (Eq.trans ?_ mode)
      simp [effectOf, applySoftReset, cast]
  | runSelftest b =>
    rcases legal serves with ⟨setup, -⟩ | ⟨-, no⟩
    · exact .inr (.inr (.inl ⟨setup, rfl, b, rfl⟩))
    · exact nomatch no
  | commit b =>
    refine .inl (Eq.trans ?_ mode)
    simp only [effectOf, applyCommit, State.holdCommit]
    split_ifs <;> simp
  | drain => exact .inl ((congrArg Control.mode (applyDrain_ctl r w)).trans mode)
  | discardStaged b | clearMute b | logReset b | setId b | read | storeRead | unusedCommand | unknownOrder b => exact .inl mode
  | registerWrite b | linkStatusClear b | feedStatusClear b | channelRecordWrite b | supersedeClear b
  | activeTableWrite b | stagedTableWrite b | frameWatchWrite b | storeCfgWrite b | storeWrite b
  | logLossClear b | eventRetire b | alertEnableWrite b | clearLost b =>
    exact .inl ((congrArg Control.mode (applyWrite_ctl r w)).trans mode)
  | _ => exact serves.elim

/-- A judged request moves the node as its row's effect does (R42). -/
theorem State.judge_moves {c : Instr} {r : Request} (u : State) (serves : rowServes c r.hdr) :
    (u.judge (effectOf c r) r).ctl.mode = u.ctl.mode ∨
      u.OrderMoves c (r.hdr.addressing = .broadcast) (u.judge (effectOf c r) r).ctl.mode := by
  have verdicts : State.VerdictKeeps (fun w => w.ctl = u.ctl) := by constructor <;> simp
  exact State.judge_leads (P := fun w => w.ctl = u.ctl)
    (Q := fun w => w.ctl.mode = u.ctl.mode ∨ u.OrderMoves c (r.hdr.addressing = .broadcast) w.ctl.mode) verdicts
    (fun _ _ h => h) (fun _ h => by simpa using h) (fun w h => .inl (congrArg Control.mode h))
    (fun passes w h => effectOf_moves serves passes h) rfl

/-! ## A command -/

/-- A lost clash moves the node by what follows its reply (R48, R51). -/
theorem State.loseClash_moves {r : Reply} {n : Nat} (h : x.ModesConsistent) (reply : x.link.rx.reply? = some (r, n)) (sent : Nat) :
    (x.loseClash r sent).ctl.mode = x.ctl.mode ∨
      ((x.loseClash r sent).ctl.mode = .reset ∧ (x.ctl.mode = .setup ∨ x.ctl.mode = .run) ∧ r.after = .softReset) ∨
      (x.ctl.mode = .setup ∧ (x.loseClash r sent).ctl.mode = .quiet ∧ r.after = .enterQuiet) := by
  have legal := (State.endingLegal_iff x).1 h.ending r n reply
  unfold State.loseClash
  cases after : r.after with
  | nothing => exact .inl (by simp [State.endReply, State.afterReply, after])
  | enterQuiet => exact .inr (.inr ⟨legal.1 after, by simp [State.endReply, State.afterReply, after, State.goQuiet], rfl⟩)
  | softReset =>
    exact .inr (.inl ⟨by simp [State.endReply, State.afterReply, after, State.beginReset, Control.reset], legal.2 after, rfl⟩)

/-- RSTN going high moves a node that no other cause holds (R44). -/
theorem State.pinRelease_moves (x : State) (mid : BitVec 4) :
    (x.pinRelease mid).ctl.mode = x.ctl.mode ∨
      (x.ctl.mode = .reset ∧ (x.pinRelease mid).ctl.mode = .selftest ∧ x.ctl.rstnLow = true ∧ x.link.beacons.toNat < 64 ∧
        x.ctl.softStep = none) := by
  unfold State.pinRelease
  split_ifs with low
  · rcases State.tryLeaveReset_cases { x with ctl := { x.ctl with rstnLow := false } } mid with ⟨reset, free, e⟩ | ⟨-, e⟩ <;> rw [e]
    · obtain ⟨-, short, step⟩ := (State.resetHeld_eq_false_iff _).1 free
      exact .inr ⟨reset, rfl, low, short, step⟩
    · exact .inl rfl
  · exact .inl rfl

/-- What a command itself moves the node to, from the node `u` when it acts (R42). -/
def State.CommandMoves (s u : State) (c : Instr) (mode : Mode) : Prop :=
  let broadcast : Prop := ∃ h, s.link.rx.followed = some h ∧ h.addressing = .broadcast
  let clashEnds : AfterReply → Prop := fun a =>
    (∃ bit, c = .replyClash bit) ∧ ∃ r n, s.link.rx.reply? = some (r, n) ∧ r.after = a
  (mode = .reset ∧ ∃ power, c = .pinReset power) ∨
    (mode = .reset ∧ (u.ctl.mode = .setup ∨ u.ctl.mode = .run) ∧
      (clashEnds .softReset ∨ (∃ b, c = .softReset b) ∧ broadcast)) ∨
    (u.ctl.mode = .reset ∧ mode = .selftest ∧ (∃ mid, c = .pinResetRelease mid) ∧
      u.ctl.rstnLow = true ∧ u.link.beacons.toNat < 64 ∧ u.ctl.softStep = none) ∨
    (u.ctl.mode = .selftest ∧ mode = .setup ∧ (∃ failed, c = .selftestPhaseEnd failed) ∧
      u.ste.phase = .s6 ∧ 256 ≤ u.ste.units) ∨
    (u.ctl.mode = .setup ∧ mode = .selftest ∧ ∃ b, c = .runSelftest b) ∨
    (u.ctl.mode = .setup ∧ mode = .run ∧ ∃ b, c = .startRun b) ∨
    (u.ctl.mode = .run ∧ mode = .setup ∧
      ((∃ b, c = .stopRun b) ∨ ((∃ n, c = .frameMarker n) ∧ u.ctl.stop ≠ none) ∨
        ((∃ l, c = .slotTick l) ∧ u.ctl.stop = some .now))) ∨
    (u.ctl.mode = .setup ∧ mode = .quiet ∧
      (clashEnds .enterQuiet ∨ (∃ b, c = .enterQuiet b) ∧ broadcast))

theorem State.OrderMoves.command {s u : State} {c : Instr} {h : Header} {mode : Mode}
    (followed : s.link.rx.followed = some h) (moves : u.OrderMoves c (h.addressing = .broadcast) mode) :
    s.CommandMoves u c mode := by
  rcases moves with ⟨reset, from_, row, cast⟩ | ⟨setup, test, row⟩ | ⟨setup, run, row⟩ | ⟨run, setup, row⟩ | ⟨setup, quiet, row, cast⟩
  · exact .inr (.inl ⟨reset, from_, .inr ⟨row, h, followed, cast⟩⟩)
  · exact .inr (.inr (.inr (.inr (.inl ⟨setup, test, row⟩))))
  · exact .inr (.inr (.inr (.inr (.inr (.inl ⟨setup, run, row⟩)))))
  · exact .inr (.inr (.inr (.inr (.inr (.inr (.inl ⟨run, setup, .inl row⟩))))))
  · exact .inr (.inr (.inr (.inr (.inr (.inr (.inr ⟨setup, quiet, .inr ⟨row, h, followed, cast⟩⟩))))))

/-- A row of a request moves the node at its acceptance point (R42). -/
theorem exec_row_moves {c : Instr} {b : Block} (row : rowBlock c = some b) {t : State} (step : exec c s = .next t) :
    t.ctl.mode = s.ctl.mode ∨ t.ctl.mode = s.atPoint.ctl.mode ∨ s.CommandMoves s.atPoint c t.ctl.mode := by
  obtain ⟨belongs, serves, e⟩ := exec_eq_takeRequest row
  rw [e] at step
  rcases s.takeRequest_cases belongs b (effectOf c) with e | ⟨r, hears, belong, -, e⟩ <;> rw [e] at step <;>
    cases Host.Outcome.next.inj step
  · exact .inl rfl
  · rcases s.atPoint.judge_moves ((serves r.hdr).1 belong) with same | moves
    · exact .inr (.inl same)
    · exact .inr (.inr (moves.command hears.1))

/-- The block of a request row: the node acts at the acceptance point. -/
theorem State.before_of_row {c : Instr} {b : Block} (row : rowBlock c = some b) (s : State) : s.before c = s.atPoint := by
  cases c <;> first | rfl | exact nomatch row

/-- A row that acts under a condition, and does nothing without it. -/
theorem next_of_ite {c : Prop} [Decidable c] {a b t : State} (step : (if c then .next a else .next b : Result) = .next t) :
    c ∧ t = a ∨ ¬c ∧ t = b := by
  split_ifs at step with h
  · exact .inl ⟨h, (Host.Outcome.next.inj step).symm⟩
  · exact .inr ⟨h, (Host.Outcome.next.inj step).symm⟩

theorem State.mode_congr {a b : State} (e : a = b) : a.ctl.mode = b.ctl.mode := by rw [e]

/-- Every command moves the node as listed, beyond the units that come with it (R42). -/
theorem exec_moves {c : Instr} {t : State} (h : s.ModesConsistent) (step : exec c s = .next t) :
    t.ctl.mode = s.ctl.mode ∨ t.ctl.mode = (s.before c).ctl.mode ∨ s.CommandMoves (s.before c) c t.ctl.mode := by
  cases hb : rowBlock c with
  | some b =>
    rw [State.before_of_row hb]
    exact exec_row_moves hb step
  | none =>
    cases c <;> simp only [rowBlock, reduceCtorEq] at hb
    case startUnit mid | beaconUnit =>
      cases Host.Outcome.next.inj step
      exact .inr (.inl rfl)
    case beaconRunEnd u mid | framingError u | replyTruncated u =>
      rcases next_of_ite step with ⟨acts, rfl⟩ | ⟨-, rfl⟩
      · exact .inr (.inl (State.mode_congr (if_pos acts).symm))
      · exact .inl rfl
    case headerReceived o =>
      change execHeaderReceived o s = .next t at step
      unfold execHeaderReceived at step
      cases rx : s.link.rx with
      | header k =>
        rw [rx] at step
        cases Host.Outcome.next.inj step
        refine .inr (.inl ?_)
        simp [State.before, rx]
      | _ =>
        rw [rx] at step
        exact .inl (State.mode_congr (Host.Outcome.next.inj step).symm)
    case ackTokenSend | readDataSend | replyEnd =>
      rcases next_of_ite step with ⟨-, rfl⟩ | ⟨acts, rfl⟩
      · exact .inl rfl
      · exact .inr (.inl (State.mode_congr (if_neg acts).symm))
    case replyClash bit =>
      change execReplyClash bit s = .next t at step
      unfold execReplyClash at step
      split at step
      · rename_i r sent o sending
        have reply := RxState.reply?_of_sending sending
        have place : s.clashPlace = r.clashPlace := by rw [State.clashPlace, reply]
        have at_ : s.before (.replyClash bit) = s.reach r.clashPlace := congrArg s.reach place
        have still : (s.reach r.clashPlace).link.rx.reply? = some (r, sent) := by
          rw [State.reach_rx (RxState.incomplete_of_reply reply), reply]
        rw [at_]
        rcases next_of_ite step with ⟨-, rfl⟩ | ⟨-, rfl⟩
        · rcases State.loseClash_moves (State.acts_consistent h (s.reach_acts _)) still sent with
            e | ⟨reset, from_, after⟩ | ⟨setup, quiet, after⟩
          · exact .inr (.inl e)
          · exact .inr (.inr (.inr (.inl ⟨reset, from_, .inl ⟨⟨bit, rfl⟩, r, sent, reply, after⟩⟩)))
          · exact .inr (.inr (.inr (.inr (.inr (.inr (.inr (.inr (.inr ⟨setup, quiet, .inl ⟨⟨bit, rfl⟩, r, sent, reply, after⟩⟩))))))))
        · exact .inl rfl
      · exact .inl (State.mode_congr (Host.Outcome.next.inj step).symm)
    case pinReset power =>
      cases Host.Outcome.next.inj step
      exact .inr (.inr (.inl ⟨rfl, power, rfl⟩))
    case pinResetRelease mid =>
      cases Host.Outcome.next.inj step
      rcases (s.reach 12).pinRelease_moves mid with e | ⟨reset, test, low, short, none⟩
      · exact .inr (.inl e)
      · exact .inr (.inr (.inr (.inr (.inl ⟨reset, test, ⟨mid, rfl⟩, low, short, none⟩))))
    case softResetStepDone mid =>
      change execSoftResetStepDone mid s = .next t at step
      unfold execSoftResetStepDone at step
      cases soft : s.ctl.softStep with
      | none =>
        rw [soft] at step
        exact .inl (State.mode_congr (Host.Outcome.next.inj step).symm)
      | some n =>
        rw [soft] at step
        cases Host.Outcome.next.inj step
        refine .inr (.inl ?_)
        simp [State.before, soft]
    case selftestPhaseEnd failed =>
      rcases next_of_ite step with ⟨-, rfl⟩ | ⟨-, rfl⟩
      · exact .inl rfl
      · obtain ⟨w, hw⟩ : ∃ w, s.before (.selftestPhaseEnd failed) = w := ⟨_, rfl⟩
        have consistent : w.ModesConsistent :=
          State.acts_consistent h (hw ▸ (State.passWhile_acts ..).trans (State.reach_acts ..))
        rw [show (State.reach _ 83) = w from hw, hw]
        rcases w.endPhaseIfDone_mode_cases failed with e | ⟨last, done, e⟩
        · exact .inr (.inl e)
        · have test := consistent.testing.1 (by simp [last])
          exact .inr (.inr (.inr (.inr (.inr (.inl ⟨test, e, ⟨failed, rfl⟩, last, done⟩)))))
    case chiChange level =>
      cases Host.Outcome.next.inj step
      exact .inr (.inl rfl)
    case feedMessage feed bits =>
      cases Host.Outcome.next.inj step
      exact .inr (.inl (congrArg Control.mode (State.takeMessage_ctl ..)))
    case frameMarker number =>
      cases Host.Outcome.next.inj step
      rcases (s.reach 30).sawMarker.takeMarker_mode_cases number with e | ⟨run, stop, e⟩
      · exact .inr (.inl e)
      · exact .inr (.inr (.inr (.inr (.inr (.inr (.inr (.inr (.inl ⟨run, e, .inr (.inl ⟨⟨number, rfl⟩, stop⟩)⟩))))))))
    case slotTick ltag =>
      cases Host.Outcome.next.inj step
      rcases (s.reach 50).takeTick_mode_cases ltag with e | ⟨run, stop, e⟩
      · exact .inr (.inl e)
      · exact .inr (.inr (.inr (.inr (.inr (.inr (.inr (.inr (.inl ⟨run, e, .inr (.inr ⟨⟨ltag, rfl⟩, stop⟩)⟩))))))))
    case frameWatchExpiry =>
      rcases next_of_ite step with ⟨-, rfl⟩ | ⟨-, rfl⟩
      · exact .inl rfl
      · exact .inr (.inl (congrArg Control.mode (State.expireWatch_ctl _)))
    case pageOpenDone b =>
      change execPageOpenDone b s = .next t at step
      unfold execPageOpenDone at step
      cases page : s.stl.bank b with
      | opening q n =>
        rw [page] at step
        cases Host.Outcome.next.inj step
        refine .inr (.inl ?_)
        simp [State.before, page]
      | none | opened q =>
        rw [page] at step
        exact .inl (State.mode_congr (Host.Outcome.next.inj step).symm)
    case logWriterStep =>
      rcases next_of_ite step with ⟨due, rfl⟩ | ⟨-, rfl⟩
      · refine .inr (.inl ?_)
        have writer : s.before .logWriterStep = s.reach 60 := if_pos ((Bool.and_eq_true_iff.1 due).2)
        rw [writer]
        simp
      · exact .inl rfl
    case feedReceiverResync feed =>
      rcases next_of_ite step with ⟨-, rfl⟩ | ⟨-, rfl⟩ <;> exact .inr (.inl rfl)

/-- Settles O11: the node's own events, a unit's early steps, and each command by its row. -/
theorem modeChangesOnlyAsListed : Obligations.ModeChangesOnlyAsListed := by
  refine ⟨fun s p h moves => ?_, fun s u mid p h hp => ?_, fun c s t h step => ?_⟩
  · rcases s.takeOwn_mode_cases p with e | ⟨last, done, e⟩
    · exact absurd e moves
    · exact ⟨h.testing.1 (by simp [last]), last, done, e⟩
  · intro v t ends moves
    have consistent : v.ModesConsistent := State.acts_consistent h (s.openUnit_acts p)
    have linked : t.ctl = (v.earlySteps u mid).ctl :=
      State.linkStep_ctl ((State.beforeLink_openUnit hp s).earlySteps u mid) u p
    rw [linked] at moves ⊢
    exact (consistent.earlySteps_moves u mid).resolve_left moves
  · intro u broadcast clashEnds moves moves'
    exact ((exec_moves h step).resolve_left moves).resolve_left moves'

end

end Sys2Proof.Machine
end

section
/-! SUPPORT. The reply memory through every step (O13). -/

namespace Sys2Proof.Machine

set_option Elab.async false

open Sys2Proof (Instr LinkUnit Bank)

section
variable {s v x t : State} {u : LinkUnit} {mid : BitVec 4}

/-! ## The node's own events -/

theorem State.endPhaseIfDone_replyMemory (s : State) (failed : List FailedWord) :
    (s.endPhaseIfDone failed).link.mem = s.link.mem := by
  rcases s.endPhaseIfDone_cases failed with ⟨-, -, e⟩ | ⟨-, e⟩ <;> rw [e]
  exact (State.phaseEffect_keeps { s with ste := _ } _ _).mem

theorem applyDrain_replyMemory (r : Request) (s : State) : (applyDrain r s).link.mem = s.link.mem := by
  unfold applyDrain
  split <;> rfl

/-! ## A request judged -/

/-- What a verdict does to the reply memory, besides what executing the request does (R17, R19). -/
theorem State.settle_replyMemory (u : State) (apply : State → State) (r : Request) (v : Verdict) :
    (u.settle apply r v).link.mem = u.link.mem ∨
      (v = .accept ∧ u.settle apply r v = (apply (u.recordValidation r.hdr)).remember r) := by
  rcases u.settle_cases apply r v with ⟨accept, e⟩ | ⟨-, e⟩ | ⟨-, e⟩ | ⟨-, e⟩ | ⟨-, e⟩ <;> rw [e]
  · exact .inr ⟨accept, rfl⟩
  · exact .inl (by simp)
  · exact .inl (by simp)
  · exact .inl (by simp)
  · exact .inl rfl

/-- A broadcast loads no reply memory (R22). -/
theorem State.settleBroadcast_replyMemory (u : State) (apply : State → State) (r : Request) :
    (u.settleBroadcast apply r).link.mem = u.link.mem ∨
      u.settleBroadcast apply r = apply (u.recordValidation r.hdr) := by
  unfold State.settleBroadcast
  split_ifs
  · exact .inl (by simp)
  · exact .inl rfl
  · exact .inl (by simp)
  · exact .inl (by simp)
  · split
    · exact .inr rfl
    all_goals exact .inl (by simp)

/-- The reply memory of the node when a request has been judged (R19, R22). -/
theorem State.judge_replyMemory (u : State) (apply : State → State) (r : Request) :
    (u.judge apply r).link.mem = u.link.mem ∨
      (r.hdr.addressing ≠ .broadcast ∧ u.verdict r = .accept ∧
        (u.judge apply r).link.mem = ((apply (u.recordValidation r.hdr)).remember r).link.mem) ∨
      (r.hdr.addressing = .broadcast ∧ u.judge apply r = apply ((u.withRx .listen).recordValidation r.hdr)) := by
  by_cases cast : r.hdr.addressing = .broadcast
  · rw [State.judge_broadcast cast]
    rcases (u.withRx .listen).settleBroadcast_replyMemory apply r with same | e
    · exact .inl same
    · exact .inr (.inr ⟨cast, e⟩)
  · rw [State.judge_addressed cast,
      show (u.judgeAddressed apply r).link.mem = (u.settle apply r (u.verdict r)).link.mem from rfl]
    rcases u.settle_replyMemory apply r (u.verdict r) with same | ⟨accept, e⟩
    · exact .inl same
    · exact .inr (.inl ⟨cast, accept, by rw [e]⟩)

theorem State.judgeWaiting_replyMemory (s : State) : s.judgeWaiting.link.mem = s.link.mem := by
  rcases s.judgeWaiting_cases with ⟨h, k, -, -, noBlock, e⟩ | e <;> rw [e]
  have kept (u : State) : (applyNoBlock ⟨h, [], 0⟩ u).link.mem = u.link.mem := by
    unfold applyNoBlock
    split
    · exact applyDrain_replyMemory _ u
    · rfl
  have forgetful (u : State) : u.remember ⟨h, [], 0⟩ = u :=
    State.remember_of_not_remembered (by simp [Header.remembered, noBlock])
  rcases s.judge_replyMemory (applyNoBlock ⟨h, [], 0⟩) ⟨h, [], 0⟩ with same | ⟨-, -, same⟩ | ⟨-, e⟩
  · exact same
  · rw [same, forgetful, kept]
    simp
  · rw [e, kept]
    simp

theorem State.takeOwn_replyMemory (s : State) (p : Nat) : (s.takeOwn p).link.mem = s.link.mem := by
  simp [State.takeOwn, apply_ite State.link, apply_ite Link.mem, State.endPhaseIfDone_replyMemory,
    State.judgeWaiting_replyMemory]

@[simp] theorem State.close_replyMemory (s : State) : s.close.link.mem = s.link.mem := by
  rcases s.close_cases with ⟨-, e⟩ | ⟨m, -, e⟩ <;> rw [e]
  exact s.takeOwn_replyMemory 90

@[simp] theorem State.reach_replyMemory (s : State) (p : Nat) : (s.reach p).link.mem = s.link.mem := by
  rcases s.reach_cases p with ⟨m, -, -, e⟩ | ⟨-, e⟩ <;> rw [e]
  · exact s.takeOwn_replyMemory p
  · exact s.close_replyMemory

@[simp] theorem State.openUnit_replyMemory (s : State) (p : Nat) : (s.openUnit p).link.mem = s.link.mem := by
  rcases s.openUnit_cases p with ⟨m, -, -, e⟩ | ⟨-, e⟩ <;> rw [e]
  · rfl
  · exact s.close_replyMemory

@[simp] theorem State.forUnit_replyMemory (s : State) : s.forUnit.link.mem = s.link.mem := by
  rcases s.forUnit_cases with ⟨m, -, -, -, e⟩ | ⟨-, e⟩ <;> rw [e]
  exact s.close_replyMemory

/-! ## A unit -/

/-- The node is in a reset that has cleared the reply memory's valid flag (R21). -/
def State.Forgets (m : ReplyMemory) (t : State) : Prop := t.ctl.mode = .reset ∧ t.link.mem = { m with valid := false }

theorem State.replyUnit_replyMemory (v : State) (u : LinkUnit) :
    (v.replyUnit u).link.mem = v.link.mem ∨
      ((∃ r, v.link.rx.endedBy u = some r) ∧ (v.replyUnit u).Forgets v.link.mem ∧
        (v.replyUnit u).ctl.softStep = some 16) := by
  unfold State.replyUnit
  split
  · rename_i r ended
    split_ifs
    · exact .inl rfl
    · rcases v.endReply_cases r with ⟨-, e⟩ | ⟨-, e⟩ | ⟨-, e⟩ <;> rw [e]
      · exact .inl rfl
      · exact .inl rfl
      · exact .inr ⟨⟨r, ended⟩, ⟨rfl, rfl⟩, rfl⟩
  · split_ifs <;> exact .inl rfl

theorem State.endCauses_replyMemory (x : State) (u : LinkUnit) (mid : BitVec 4) :
    (x.endCauses u mid).link.mem = x.link.mem := by
  rw [State.endCauses_eq]
  split
  · change ((x.causesEnded u).tryLeaveReset mid).link.mem = (x.causesEnded u).link.mem
    rw [State.tryLeaveReset_link]
  · rfl

/-- A soft reset that has just begun goes on (R44). -/
theorem State.Forgets.endCauses {m : ReplyMemory} (h : x.Forgets m) (u : LinkUnit) (mid : BitVec 4)
    (step : x.ctl.softStep = some 16) : (x.endCauses u mid).Forgets m := by
  refine ⟨?_, (x.endCauses_replyMemory u mid).trans h.2⟩
  rcases x.endCauses_mode_cases u mid with e | ⟨-, -, -, other, -⟩
  · exact e.trans h.1
  · simp [step] at other

/-- A unit keeps the reply memory, or ends in the reset that it has begun (R21, R51, R55). -/
theorem State.earlySteps_replyMemory (v : State) (u : LinkUnit) (mid : BitVec 4) :
    (v.earlySteps u mid).link.mem = v.link.mem ∨
      ((u = .beacon ∨ ∃ r, v.link.rx.endedBy u = some r) ∧ (v.earlySteps u mid).Forgets v.link.mem) := by
  obtain ⟨a, ha⟩ : ∃ a, v.replyUnit u = a := ⟨_, rfl⟩
  have replies := v.replyUnit_replyMemory u
  rw [ha] at replies
  by_cases beacon : u = .beacon
  · subst beacon
    rw [State.earlySteps_beacon, ha]
    rcases a.countBeacon_cases with ⟨last, e⟩ | ⟨other, e⟩
    · have run : 64 ≤ a.countBeacon.link.beacons.toNat := by
        rw [e]
        simp [State.beginReset, Link.reset, last, satInc_eight]
      refine .inr ⟨.inl rfl, ?_, ?_⟩
      · rw [(State.endCauses_beacon_of_run run mid).1, e]
        rfl
      · rw [State.endCauses_replyMemory, e]
        rcases replies with same | ⟨-, ⟨-, same⟩, -⟩
        · exact congrArg (fun m : ReplyMemory => { m with valid := false }) same
        · exact congrArg (fun m : ReplyMemory => { m with valid := false }) same
    · have counted : a.countBeacon = a.withBeacons (satInc a.link.beacons) := e
      rw [counted]
      rcases replies with same | ⟨ended, forgets, step⟩
      · exact .inl ((State.endCauses_replyMemory _ _ _).trans same)
      · exact .inr ⟨.inl rfl, State.Forgets.endCauses (x := a.withBeacons (satInc a.link.beacons)) forgets .beacon mid step⟩
  · rw [State.earlySteps_of_other beacon, ha]
    have kept (c : State) : c.afterRun.link.mem = c.link.mem := by rw [c.runEnds_afterRun.link]
    rcases replies with same | ⟨ended, forgets, step⟩
    · exact .inl ((kept _).trans ((State.endCauses_replyMemory _ _ _).trans same))
    · have caused := forgets.endCauses u mid step
      refine .inr ⟨.inr ended, ?_, (kept _).trans caused.2⟩
      rw [State.afterRun_mode_of_awake (by rw [caused.1]; decide), caused.1]

theorem State.linkStep_replyMemory (v : State) (u : LinkUnit) (p : Nat) : (v.linkStep u p).link.mem = v.link.mem := by
  have begun (x : State) : x.beginRequest.link.mem = x.link.mem := by
    unfold State.beginRequest
    split <;> rfl
  have cut (x : State) : x.cutShort.link.mem = x.link.mem := by
    rcases x.cutShort_cases with ⟨r, n, -, e⟩ | ⟨-, e⟩ <;> rw [e] <;> rfl
  rcases v.linkStep_cases u p with ⟨-, e⟩ | ⟨-, -, -, e⟩ | ⟨-, -, -, e⟩ | ⟨-, -, e⟩ <;> rw [e]
  · split <;> simp [begun, cut]
  · rw [begun, State.reach_replyMemory]
  · exact begun v

/-- A unit keeps the reply memory, or ends in the reset that it has begun (R21). -/
theorem State.unit_replyMemory {p : Nat} (hp : p ≤ 70) (s : State) (u : LinkUnit) (mid : BitVec 4) :
    (s.unit u mid p).link.mem = s.link.mem ∨
      ((u = .beacon ∨ ∃ r, (s.openUnit p).link.rx.endedBy u = some r) ∧ (s.unit u mid p).Forgets s.link.mem) := by
  rw [State.unit, State.linkStep_replyMemory, State.Forgets, State.linkStep_replyMemory,
    State.linkStep_ctl ((State.beforeLink_openUnit hp s).earlySteps u mid), ← s.openUnit_replyMemory p]
  exact (s.openUnit p).earlySteps_replyMemory u mid

theorem State.receive_replyMemory (s : State) (u : LinkUnit) (mid : BitVec 4) :
    (s.receive u mid).link.mem = s.link.mem ∨ (s.receive u mid).Forgets s.link.mem :=
  (State.unit_replyMemory (s.unitPlace_le u) s u mid).imp_right (·.2)

/-! ## Units that pass -/

/-- No reply ends with a unit that passes. -/
theorem State.passUnit_replyMemory_of_goes (incomplete : s.link.rx.complete = false) (goes : s.link.rx.endingReply = none)
    (mid : BitVec 4) : (s.passUnit mid).link.mem = s.link.mem := by
  have rx : s.forUnit.link.rx = s.link.rx := State.forUnit_rx incomplete
  rcases s.passUnit_cases mid with ⟨-, e⟩ | ⟨-, e⟩ <;> rw [e]
  · exact s.forUnit_replyMemory
  · rcases State.unit_replyMemory (s.forUnit.unitPlace_le s.forUnit.link.rx.filler) s.forUnit s.forUnit.link.rx.filler mid with
      same | ⟨ends, -⟩
    · exact same.trans s.forUnit_replyMemory
    · rw [State.openUnit_rx (by rw [rx]; exact incomplete), rx] at ends
      unfold RxState.filler at ends
      split_ifs at ends <;> simp [RxState.endedBy, goes] at ends

theorem State.passUnit_replyMemory (s : State) (mid : BitVec 4) :
    (s.passUnit mid).link.mem = s.link.mem ∨ (s.passUnit mid).Forgets s.link.mem := by
  rcases s.passUnit_cases mid with ⟨-, e⟩ | ⟨-, e⟩ <;> rw [e]
  · exact .inl s.forUnit_replyMemory
  · rw [← s.forUnit_replyMemory]
    exact s.forUnit.receive_replyMemory _ mid

/-- Units that pass while no reply can end keep the reply memory. -/
theorem State.passWhile_replyMemory_of_goes {going : State → Bool} (mid : BitVec 4)
    (goes : ∀ x : State, x.ModesConsistent → going x = true → x.link.rx.complete = false ∧ x.link.rx.endingReply = none)
    (n : Nat) (h : s.ModesConsistent) : (s.passWhile going mid n).link.mem = s.link.mem := by
  induction n generalizing s with
  | zero => rfl
  | succ n ih =>
    rw [State.passWhile]
    split
    · rename_i runs
      obtain ⟨incomplete, none⟩ := goes s h runs
      exact (ih (State.acts_consistent h (s.passUnit_acts mid))).trans (State.passUnit_replyMemory_of_goes incomplete none mid)
    · rfl

theorem RxState.endingReply_of_request {rx : RxState} (h : rx.request.isSome = true) : rx.endingReply = none := by
  cases rx <;> first | rfl | exact nomatch h

/-- The octets of a request keep the reply memory (R2). -/
theorem State.passUnits_replyMemory_of_request (h : s.link.rx.request.isSome = true) (n : Nat) :
    (s.passUnits n).link.mem = s.link.mem := by
  induction n generalizing s with
  | zero => rfl
  | succ n ih =>
    have one := State.passUnit_goesOn h 0
    exact (ih (s := s.passUnit 0) (by rw [one.request, h])).trans
      (State.passUnit_replyMemory_of_goes (RxState.incomplete_of_request h) (RxState.endingReply_of_request h) 0)

theorem State.lastOctet_replyMemory (h : s.link.rx.request.isSome = true) : s.lastOctet.link.mem = s.link.mem := by
  rw [State.lastOctet, State.reach_replyMemory]
  refine (State.unit_replyMemory (Nat.le_refl 70) s .octet 0).resolve_right fun ⟨ends, _⟩ => ?_
  rw [State.openUnit_rx (RxState.incomplete_of_request h)] at ends
  simp [RxState.endedBy, RxState.endingReply_of_request h] at ends

/-- The units to a request's acceptance point keep the reply memory (R2). -/
theorem State.atPoint_replyMemory (s : State) : s.atPoint.link.mem = s.link.mem := by
  unfold State.atPoint
  split
  · exact s.reach_replyMemory 70
  · rename_i n left
    have inside := RxState.request_of_blockLeft left
    rw [State.lastOctet_replyMemory (by rw [(State.passUnits_goesOn inside n).request, inside]),
      State.passUnits_replyMemory_of_request inside]

theorem State.atHeaderEnd_replyMemory {k : Nat} (rx : s.link.rx = .header k) (j : Nat) :
    (s.atHeaderEnd j).link.mem = s.link.mem := by
  have inside : s.link.rx.request.isSome = true := by rw [rx]; rfl
  rw [State.atHeaderEnd, State.lastOctet_replyMemory (by rw [(State.passUnits_goesOn inside _).request, inside]),
    State.passUnits_replyMemory_of_request inside]

/-- Units that pass keep the reply memory, or stop at the reset that they have begun. -/
theorem State.passWhile_replyMemory {going : State → Bool} (mid : BitVec 4)
    (stops : ∀ x : State, x.ModesConsistent → x.ctl.mode = .reset → going x = false) (n : Nat) (h : s.ModesConsistent) :
    (s.passWhile going mid n).link.mem = s.link.mem ∨ (s.passWhile going mid n).Forgets s.link.mem := by
  induction n generalizing s with
  | zero => exact .inl rfl
  | succ n ih =>
    rw [State.passWhile]
    split
    · have consistent := State.acts_consistent h (s.passUnit_acts mid)
      rcases s.passUnit_replyMemory mid with same | forgets
      · rw [← same]
        exact ih consistent
      · rw [State.passWhile_of_not n (stops _ consistent forgets.1)]
        exact .inr forgets
    · exact .inl rfl

end

end Sys2Proof.Machine
end

section
/-! SUPPORT. The reply memory and the commands (O13). -/

namespace Sys2Proof.Machine

set_option Elab.async false

open Sys2Proof (Instr LinkUnit Bank Word)

section
variable {s x t : State} {r : Reply}

/-! ## The units of a reply -/

/-- `n` units of the reply pass without its end. -/
def RxState.GoesFor : Nat → RxState → Prop
  | 0, _ => True
  | n + 1, rx => rx.replying = true ∧ rx.endingReply = none ∧ RxState.GoesFor n rx.next

theorem State.passUnits_replyMemory_of_goesFor {n : Nat} (h : s.link.rx.GoesFor n) :
    (s.passUnits n).link.mem = s.link.mem := by
  induction n generalizing s with
  | zero => rfl
  | succ n ih =>
    obtain ⟨replying, goes, rest⟩ := h
    obtain ⟨rx, -, -⟩ := State.passUnit_moves replying goes 0
    exact (ih (s := s.passUnit 0) (by rw [rx]; exact rest)).trans
      (State.passUnit_replyMemory_of_goes (RxState.of_replying replying).1 goes 0)

theorem RxState.stalled_of_complete {rx : RxState} (h : rx.complete = true) : rx.stalled = true := by
  cases rx with
  | data hd k => simp_all [RxState.complete, RxState.stalled, Header.blockOctets]
  | _ => exact nomatch h

theorem State.forUnit_of_idle (now : s.now = none) : s.forUnit = s := by
  rcases s.forUnit_cases with ⟨m, open_, -⟩ | ⟨-, e⟩
  · exact nomatch now.symm.trans open_
  · rw [e, State.close, now]
    rfl

/-- A request that waits for its acceptance point is judged at the end of its instant, or the link stalls. -/
theorem State.passUnits_of_complete (complete : s.link.rx.complete = true) (n : Nat) :
    s.passUnits n = s ∨ s.passUnits n = s.close.passUnits n := by
  rcases s.forUnit_cases with ⟨m, -, -, -, e⟩ | ⟨-, e⟩
  · have waits : s.passUnit 0 = s := by
      rcases s.passUnit_cases 0 with ⟨-, e'⟩ | ⟨runs, -⟩
      · exact e'.trans e
      · rw [e, RxState.stalled_of_complete complete] at runs
        exact nomatch runs
    refine .inl ?_
    induction n with
    | zero => rfl
    | succ n ih => rw [State.passUnits_succ, waits, ih]
  · have first : s.passUnit 0 = s.close.passUnit 0 := by
      rw [State.passUnit, State.passUnit, e, State.forUnit_of_idle s.close_now]
    cases n with
    | zero => exact .inl rfl
    | succ n => exact .inr (by rw [State.passUnits_succ, State.passUnits_succ, first])

/-- The units of a reply keep the reply memory up to its end, or end in the reset that it has begun (R21, R51). -/
theorem State.passUnits_replyMemory_of_close {n : Nat} (h : s.close.link.rx.GoesFor n) :
    (s.passUnits n).link.mem = s.link.mem ∧
      ((s.passUnits (n + 1)).link.mem = s.link.mem ∨ (s.passUnits (n + 1)).Forgets s.link.mem) := by
  have last (x : State) (h : x.link.rx.GoesFor n) : (x.passUnits n).link.mem = x.link.mem ∧
      ((x.passUnits (n + 1)).link.mem = x.link.mem ∨ (x.passUnits (n + 1)).Forgets x.link.mem) := by
    have kept := State.passUnits_replyMemory_of_goesFor h
    refine ⟨kept, ?_⟩
    rw [State.passUnits_add, ← kept]
    exact (x.passUnits n).passUnit_replyMemory 0
  cases complete : s.link.rx.complete with
  | false => exact last s (by rwa [State.close_rx complete] at h)
  | true =>
    obtain ⟨kept, ends⟩ := last s.close h
    rw [State.close_replyMemory] at kept ends
    constructor
    · rcases State.passUnits_of_complete complete n with e | e <;> rw [e]
      exact kept
    · rcases State.passUnits_of_complete complete (n + 1) with e | e <;> rw [e]
      · exact .inl rfl
      · exact ends

theorem RxState.goesFor_ackWait {n k : Nat} (within : n ≤ r.ackDelay - k) : (RxState.ackWait r k).GoesFor n := by
  induction n generalizing k with
  | zero => trivial
  | succ n ih =>
    refine ⟨rfl, rfl, ?_⟩
    rw [RxState.next]
    split_ifs
    · obtain rfl : n = 0 := by omega
      trivial
    · exact ih (by omega)

theorem RxState.goesFor_readWait {n k : Nat} (within : n ≤ r.readDelay - k) : (RxState.readWait r k).GoesFor n := by
  induction n generalizing k with
  | zero => trivial
  | succ n ih =>
    refine ⟨rfl, rfl, ?_⟩
    rw [RxState.next]
    split_ifs
    · obtain rfl : n = 0 := by omega
      trivial
    · exact ih (by omega)

/-- The token and the wait before the read data (R13). -/
theorem RxState.goesFor_token {n k : Nat} (data : r.data.isSome = true) (within : n ≤ 3 - k + r.readDelay) :
    (RxState.token r k).GoesFor n := by
  induction n generalizing k with
  | zero => trivial
  | succ n ih =>
    refine ⟨rfl, by simp [RxState.endingReply, Option.isSome_iff_ne_none.1 data], ?_⟩
    rw [RxState.next, if_pos data]
    split_ifs
    · exact ih (by omega)
    · exact RxState.goesFor_readWait (by omega)

/-- The octets of the token but the last (R13). -/
theorem RxState.goesFor_token_to_end {n k : Nat} (within : n < 3 - k) : (RxState.token r k).GoesFor n := by
  induction n generalizing k with
  | zero => trivial
  | succ n ih =>
    refine ⟨rfl, by simp [RxState.endingReply]; omega, ?_⟩
    rw [RxState.next, if_pos (by omega)]
    exact ih (by omega)

/-- The octets of the read data but the last (R13). -/
theorem RxState.goesFor_readData_to_end {n k : Nat} (within : n < (r.data.getD []).length - k) :
    (RxState.readData r k).GoesFor n := by
  induction n generalizing k with
  | zero => trivial
  | succ n ih =>
    refine ⟨rfl, by simp only [RxState.endingReply, ite_eq_right_iff]; omega, ?_⟩
    rw [RxState.next, if_pos (by omega)]
    exact ih (by omega)

theorem RxState.goesFor_beforeToken (rx : RxState) : rx.GoesFor rx.beforeToken := by
  cases rx with
  | ackWait r k => exact RxState.goesFor_ackWait (Nat.le_refl _)
  | _ => trivial

theorem RxState.goesFor_beforeReadData (rx : RxState) : rx.GoesFor rx.beforeReadData := by
  cases rx with
  | token r k =>
    rw [RxState.beforeReadData]
    split_ifs with data
    · exact RxState.goesFor_token data (Nat.le_refl _)
    · trivial
  | readWait r k => exact RxState.goesFor_readWait (Nat.le_refl _)
  | _ => trivial

theorem RxState.goesFor_beforeEnd {rx : RxState} {n : Nat} (last : rx.beforeEnd = n + 1) : rx.GoesFor n := by
  cases rx with
  | token r k =>
    rw [RxState.beforeEnd] at last
    split_ifs at last
    exact RxState.goesFor_token_to_end (by omega)
  | readData r k => exact RxState.goesFor_readData_to_end (by rw [RxState.beforeEnd] at last; omega)
  | _ => exact nomatch last

end

/-! ## The request rows -/

section
variable {c : Instr} {r : Request} {s u w : State}

theorem State.writeWord_replyMemory (s : State) (a : Nat) (w : Word) : (s.writeWord a w).link.mem = s.link.mem := by
  unfold State.writeWord
  split
  · unfold State.writeRegister
    split <;> rfl
  all_goals rfl

theorem applyWrite_replyMemory (r : Request) (s : State) : (applyWrite r s).link.mem = s.link.mem := by
  unfold applyWrite
  split
  · rfl
  · exact State.writeFrom_keeps (P := fun u => u.link.mem = s.link.mem) (fun u a w h => (u.writeWord_replyMemory a w).trans h)
      s _ _ rfl

/-- Executing a request keeps the reply memory, but for a broadcast SOFT_RESET (R21). -/
theorem effectOf_replyMemory (c : Instr) (r : Request) (w : State) :
    (effectOf c r w).link.mem = w.link.mem ∨ (r.hdr.addressing = .broadcast ∧ (effectOf c r w).Forgets w.link.mem) := by
  cases c with
  | softReset b =>
    by_cases cast : r.hdr.addressing = .broadcast
    · refine .inr ⟨cast, ?_⟩
      simp only [effectOf, applySoftReset, cast, if_true]
      exact ⟨rfl, rfl⟩
    · exact .inl (by simp [effectOf, applySoftReset, cast])
  | enterQuiet b =>
    refine .inl ?_
    simp only [effectOf, applyEnterQuiet]
    split_ifs <;> rfl
  | stopRun b =>
    refine .inl ?_
    simp only [effectOf, applyStopRun, State.stopNow, State.stopAtFrame]
    split_ifs <;> simp
  | commit b =>
    refine .inl ?_
    simp only [effectOf, applyCommit, State.holdCommit]
    split_ifs <;> simp
  | drain => exact .inl (applyDrain_replyMemory r w)
  | registerWrite b | linkStatusClear b | feedStatusClear b | channelRecordWrite b | supersedeClear b
  | activeTableWrite b | stagedTableWrite b | frameWatchWrite b | storeCfgWrite b | storeWrite b
  | logLossClear b | eventRetire b | alertEnableWrite b | clearLost b => exact .inl (applyWrite_replyMemory r w)
  | _ => exact .inl rfl

/-- A judged request loads the reply memory when it is a DIRECT one with a block that is executed; a broadcast SOFT_RESET
clears its flag (R19, R21). -/
theorem State.judge_row_replyMemory (c : Instr) (r : Request) (u : State) :
    (u.judge (effectOf c r) r).link.mem = u.link.mem ∨
      (r.hdr.addressing = .direct ∧ r.hdr.command.hasBlock = true ∧ u.verdict r = .accept ∧
        (u.judge (effectOf c r) r).link.mem = r.memory) ∨ (u.judge (effectOf c r) r).Forgets u.link.mem := by
  rcases u.judge_replyMemory (effectOf c r) r with same | ⟨addressed, accept, same⟩ | ⟨cast, e⟩
  · exact .inl same
  · by_cases remembered : r.hdr.remembered = true
    · rw [State.remember_of_remembered remembered] at same
      simp only [Header.remembered, Bool.and_eq_true, decide_eq_true_eq] at remembered
      exact .inr (.inl ⟨remembered.1, remembered.2, accept, same⟩)
    · rw [State.remember_of_not_remembered (by simpa using remembered)] at same
      rcases effectOf_replyMemory c r (u.recordValidation r.hdr) with kept | ⟨cast, -⟩
      · exact .inl (same.trans (kept.trans (by simp)))
      · exact absurd cast addressed
  · rw [e]
    rcases effectOf_replyMemory c r ((u.withRx .listen).recordValidation r.hdr) with same | ⟨-, forgets⟩
    · exact .inl (same.trans (by simp))
    · exact .inr (.inr (by simpa using forgets))

end

/-! ## The other rows -/

section
variable {s x : State} {m : ReplyMemory}

theorem State.endReply_replyMemory (v : State) (r : Reply) :
    (v.endReply r).link.mem = v.link.mem ∨ (v.endReply r).Forgets v.link.mem := by
  rcases v.endReply_cases r with ⟨-, e⟩ | ⟨-, e⟩ | ⟨-, e⟩ <;> rw [e]
  · exact .inl rfl
  · exact .inl rfl
  · exact .inr ⟨rfl, rfl⟩

theorem State.loseClash_replyMemory (v : State) (r : Reply) (sent : Nat) :
    (v.loseClash r sent).link.mem = v.link.mem ∨ (v.loseClash r sent).Forgets v.link.mem := by
  rw [State.loseClash]
  obtain ⟨w, hw⟩ : ∃ w, (if r.after = .nothing then
    { v with link := { v.link with clashes := satInc v.link.clashes } }.raise .replyClash
      (octets2 (Config.serial.extractLsb' 0 8) (BitVec.ofNat 8 (min (sent + 1) 255))) else v) = w := ⟨_, rfl⟩
  have kept : w.link.mem = v.link.mem := by
    rw [← hw]
    split_ifs <;> rfl
  rw [hw, ← kept]
  exact w.endReply_replyMemory r

theorem State.judgeHeader_replyMemory (v : State) (o : BitVec 64) : (v.judgeHeader o).link.mem = v.link.mem := by
  unfold State.judgeHeader
  split_ifs <;> rfl

theorem State.pinRelease_replyMemory (v : State) (mid : BitVec 4) : (v.pinRelease mid).link.mem = v.link.mem := by
  unfold State.pinRelease
  split_ifs
  · rw [State.tryLeaveReset_link]
  · rfl

/-- The node's own events of an instant leave a node in RESET there (R44). -/
theorem State.reach_mode_of_reset (h : x.ModesConsistent) (reset : x.ctl.mode = .reset) (p : Nat) :
    (x.reach p).ctl.mode = .reset := by
  have own (p : Nat) : (x.takeOwn p).ctl.mode = .reset := by
    rcases x.takeOwn_mode_cases p with e | ⟨last, -, -⟩
    · exact e.trans reset
    · exact nomatch reset.symm.trans (h.testing.1 (by simp [last]))
  rcases x.reach_cases p with ⟨m, -, -, e⟩ | ⟨-, e⟩ <;> rw [e]
  · exact own p
  · rcases x.close_cases with ⟨-, e⟩ | ⟨m, -, e⟩ <;> rw [e]
    · exact reset
    · exact own 90

/-- What the node goes on to at the end of a count that units that pass have run out. -/
theorem State.passWhile_reach_replyMemory {going : State → Bool} (h : s.ModesConsistent)
    (stops : ∀ x : State, x.ModesConsistent → x.ctl.mode = .reset → going x = false) (n p : Nat) :
    ((s.passWhile going 0 n).reach p).link.mem = s.link.mem ∨ ((s.passWhile going 0 n).reach p).Forgets s.link.mem := by
  rcases State.passWhile_replyMemory 0 stops n h with same | ⟨reset, same⟩
  · exact .inl ((State.reach_replyMemory _ p).trans same)
  · exact .inr ⟨State.reach_mode_of_reset (State.acts_consistent h (State.passWhile_acts ..)) reset p,
      (State.reach_replyMemory _ p).trans same⟩

/-- No phase runs in RESET (R157). -/
theorem State.ModesConsistent.phase_of_reset (h : x.ModesConsistent) (reset : x.ctl.mode = .reset) : x.ste.phase = .idle := by
  by_contra runs
  exact nomatch reset.symm.trans (h.testing.1 runs)

/-- In LISTEN, in which a soft reset's step is spent, no reply ends (R3, R163). -/
theorem State.ModesConsistent.goes_of_softStep (h : x.ModesConsistent) (soft : x.ctl.softStep.isSome = true) :
    x.link.rx.complete = false ∧ x.link.rx.endingReply = none := by
  have held : x.resetHeld = true := by
    by_contra free
    have ended := (State.resetHeld_eq_false_iff x).1 (Bool.eq_false_iff.2 free)
    simp [ended.2.2] at soft
  rw [h.listening (.inl (h.held.2 held))]
  exact ⟨rfl, rfl⟩

/-- A command that is no request row keeps the reply memory, or ends in a reset that clears its flag (R19, R21). -/
theorem exec_replyMemory {c : Instr} {t : State} (noRow : rowBlock c = none) (h : s.ModesConsistent) (step : exec c s = .next t) :
    t.link.mem = s.link.mem ∨ t.Forgets s.link.mem := by
  cases c <;> simp only [rowBlock, reduceCtorEq] at noRow
  case startUnit mid | beaconUnit =>
    cases Host.Outcome.next.inj step
    exact s.receive_replyMemory _ _
  case beaconRunEnd u mid | framingError u | replyTruncated u =>
    rcases next_of_ite step with ⟨-, rfl⟩ | ⟨-, rfl⟩
    · exact s.receive_replyMemory _ _
    · exact .inl rfl
  case headerReceived o =>
    change execHeaderReceived o s = .next t at step
    unfold execHeaderReceived at step
    split at step
    · rename_i k header
      cases Host.Outcome.next.inj step
      exact .inl ((State.judgeHeader_replyMemory _ o).trans (State.atHeaderEnd_replyMemory header k))
    · cases Host.Outcome.next.inj step
      exact .inl rfl
  case ackTokenSend =>
    rcases next_of_ite step with ⟨-, rfl⟩ | ⟨-, rfl⟩
    · exact .inl rfl
    · exact .inl (State.passUnits_replyMemory_of_close (RxState.goesFor_beforeToken _)).1
  case readDataSend =>
    rcases next_of_ite step with ⟨-, rfl⟩ | ⟨-, rfl⟩
    · exact .inl rfl
    · exact .inl (State.passUnits_replyMemory_of_close (RxState.goesFor_beforeReadData _)).1
  case replyEnd =>
    rcases next_of_ite step with ⟨-, rfl⟩ | ⟨some, rfl⟩
    · exact .inl rfl
    · obtain ⟨n, hn⟩ := Nat.exists_eq_succ_of_ne_zero some
      rw [hn]
      exact (State.passUnits_replyMemory_of_close (RxState.goesFor_beforeEnd hn)).2
  case replyClash bit =>
    change execReplyClash bit s = .next t at step
    unfold execReplyClash at step
    split at step
    · rename_i r sent o sending
      rcases next_of_ite step with ⟨-, rfl⟩ | ⟨-, rfl⟩
      · rw [← s.reach_replyMemory r.clashPlace]
        exact State.loseClash_replyMemory _ r sent
      · exact .inl rfl
    · cases Host.Outcome.next.inj step
      exact .inl rfl
  case pinReset power =>
    cases Host.Outcome.next.inj step
    rw [← s.reach_replyMemory 11]
    exact .inr ⟨rfl, rfl⟩
  case pinResetRelease mid =>
    cases Host.Outcome.next.inj step
    exact .inl ((State.pinRelease_replyMemory _ mid).trans (s.reach_replyMemory 12))
  case softResetStepDone mid =>
    change execSoftResetStepDone mid s = .next t at step
    unfold execSoftResetStepDone at step
    split at step <;> cases Host.Outcome.next.inj step
    · exact .inl (State.passWhile_replyMemory_of_goes mid (fun x consistent soft => consistent.goes_of_softStep soft) _ h)
    · exact .inl rfl
  case selftestPhaseEnd failed =>
    rcases next_of_ite step with ⟨-, rfl⟩ | ⟨runs, rfl⟩
    · exact .inl rfl
    · obtain ⟨w, hw⟩ : ∃ w,
          (s.passWhile (State.phaseRuns s.ste.phase) 0 (s.ste.phase.length - s.ste.units)).reach 83 = w := ⟨_, rfl⟩
      have passed := State.passWhile_reach_replyMemory (going := State.phaseRuns s.ste.phase) h
        (fun x consistent reset => by simp [State.phaseRuns, consistent.phase_of_reset reset, Ne.symm runs])
        (s.ste.phase.length - s.ste.units) 83
      have consistent : w.ModesConsistent :=
        State.acts_consistent h (hw ▸ (State.passWhile_acts ..).trans (State.reach_acts ..))
      rw [hw] at passed ⊢
      refine passed.imp (w.endPhaseIfDone_replyMemory failed).trans fun ⟨reset, same⟩ =>
        ⟨?_, (w.endPhaseIfDone_replyMemory failed).trans same⟩
      rcases w.endPhaseIfDone_mode_cases failed with e | ⟨last, -, -⟩
      · exact e.trans reset
      · exact nomatch last.symm.trans (consistent.phase_of_reset reset)
  case chiChange level =>
    cases Host.Outcome.next.inj step
    exact .inl (s.reach_replyMemory 0)
  case feedMessage feed bits =>
    cases Host.Outcome.next.inj step
    exact .inl ((congrArg Link.mem (State.takeMessage_link ..)).trans (s.reach_replyMemory _))
  case frameMarker number =>
    cases Host.Outcome.next.inj step
    exact .inl ((congrArg Link.mem (State.takeMarker_link ..)).trans (s.reach_replyMemory 30))
  case slotTick ltag =>
    cases Host.Outcome.next.inj step
    exact .inl ((congrArg Link.mem (State.takeTick_link ..)).trans (s.reach_replyMemory 50))
  case frameWatchExpiry =>
    rcases next_of_ite step with ⟨-, rfl⟩ | ⟨-, rfl⟩
    · exact .inl rfl
    · have passed := State.passWhile_reach_replyMemory (going := State.watchWaits) h
        (fun x _ reset => by simp [State.watchWaits, State.watchRuns, reset]) (s.lane.watchLimit - s.lane.watchCount) 82
      simpa [State.Forgets] using passed
  case pageOpenDone b =>
    change execPageOpenDone b s = .next t at step
    unfold execPageOpenDone at step
    split at step <;> cases Host.Outcome.next.inj step
    · rename_i q n page
      have passed := State.passWhile_reach_replyMemory (going := State.openWaits b) h
        (fun x consistent reset => by
          obtain ⟨-, -, -, bank0, bank1⟩ := consistent.empty reset
          cases b <;> simp [State.openWaits, Store.bank, bank0, bank1]) n (80 + bankNumber b)
      simpa [State.Forgets] using passed
    · exact .inl rfl
  case logWriterStep =>
    rcases next_of_ite step with ⟨-, rfl⟩ | ⟨-, rfl⟩
    · exact .inl (by simp)
    · exact .inl rfl
  case feedReceiverResync feed =>
    rcases next_of_ite step with ⟨-, rfl⟩ | ⟨-, rfl⟩ <;> exact .inl (s.reach_replyMemory _)

/-- Settles O13: a request row loads the reply memory by its verdict, every other row keeps it or begins a reset. -/
theorem replyMemoryChangesOnlyAsStated : Obligations.ReplyMemoryChangesOnlyAsStated := by
  intro c s t h step changes
  cases row : rowBlock c with
  | none => exact .inr ((exec_replyMemory row h step).resolve_left changes)
  | some b =>
    obtain ⟨belongs, -, e⟩ := exec_eq_takeRequest row
    rw [e] at step
    rcases s.takeRequest_cases belongs b (effectOf c) with e | ⟨r, hears, -, -, e⟩ <;> rw [e] at step <;>
      cases Host.Outcome.next.inj step
    · exact absurd rfl changes
    · rcases State.judge_row_replyMemory c r s.atPoint with same | ⟨direct, block, accept, loaded⟩ | forgets
      · exact absurd (same.trans s.atPoint_replyMemory) changes
      · exact .inl ⟨r, hears.1, direct, block, accept, loaded⟩
      · rw [s.atPoint_replyMemory] at forgets
        exact .inr forgets

end

end Sys2Proof.Machine
end

section
/-! SUPPORT. What a node in QUIET keeps (O12). -/

namespace Sys2Proof.Machine

set_option Elab.async false

open Sys2Proof (Instr LinkUnit Bank Word)

section
variable {s t u v x : State}

/-! ## What is kept in QUIET -/

/-- What R168 names: the node's name and settings, the reply and drain memories, the channels and feed counters, the
tables, the lane, the self-test, the user word and the control block. -/
def State.retained (s : State) :=
  (s.ident.nodeId, (s.link.cfg, s.link.statusWord, s.link.mem, s.link.drain),
    (s.cap.feedCfg, s.cap.span, s.cap.channels, fun f => (s.cap.feed f).statusWord), (s.sct, s.lane),
    (s.stl.cfg, s.stl.watermark, s.evu.enable, s.evu.alert), s.ste, s.user, s.ctl)

/-- `t` keeps what `s` has in QUIET: what R168 names, and, with no record queued and no page being opened, the store, the
log and the events (R49). -/
structure State.Retains (s t : State) : Prop where
  kept : t.retained = s.retained
  still : s.stl.queue = [] → (∀ b, (s.stl.bank b).isOpening = false) →
    t.stl = { s.stl with writerDue := t.stl.writerDue } ∧ t.evu = { s.evu with alertn := t.evu.alertn }

theorem State.Retains.refl (s : State) : s.Retains s := ⟨rfl, fun _ _ => ⟨rfl, rfl⟩⟩

theorem State.Retains.trans (h : s.Retains t) (g : t.Retains u) : s.Retains u := by
  refine ⟨g.kept.trans h.kept, fun queue banks => ?_⟩
  obtain ⟨stl, evu⟩ := h.still queue banks
  have same (b : Bank) : t.stl.bank b = s.stl.bank b := by
    rw [stl]
    cases b <;> rfl
  obtain ⟨stl', evu'⟩ := g.still (by rw [stl]; exact queue) fun b => by rw [same, banks]
  constructor
  · calc u.stl = { t.stl with writerDue := u.stl.writerDue } := stl'
      _ = { s.stl with writerDue := u.stl.writerDue } := by rw [stl]
  · calc u.evu = { t.evu with alertn := u.evu.alertn } := evu'
      _ = { s.evu with alertn := u.evu.alertn } := by rw [evu]

theorem State.Retains.withNow (h : s.Retains t) (now : Option Moment) : s.Retains { t with now := now } := ⟨h.kept, h.still⟩

/-- An event that changes neither what R168 names nor the store, the log and the events. -/
theorem State.Retains.of_same (kept : t.retained = s.retained) (stl : t.stl = s.stl) (evu : t.evu = s.evu) : s.Retains t :=
  ⟨kept, fun _ _ => ⟨by rw [stl], by rw [evu]⟩⟩

theorem State.Retains.ite {c : Prop} [Decidable c] (h : s.Retains t) (g : t.Retains u) : s.Retains (if c then u else t) := by
  split_ifs
  · exact h.trans g
  · exact h

theorem State.Retains.ctl (h : s.Retains t) : t.ctl = s.ctl := by
  have kept := h.kept
  simp only [State.retained, Prod.mk.injEq] at kept
  exact kept.2.2.2.2.2.2.2

theorem State.Retains.ste (h : s.Retains t) : t.ste = s.ste := by
  have kept := h.kept
  simp only [State.retained, Prod.mk.injEq] at kept
  exact kept.2.2.2.2.2.1

/-- The node is in QUIET, with the link interface in LISTEN, no reset cause and no self-test phase. -/
structure State.Parked (s : State) : Prop where
  mode : s.ctl.mode = .quiet
  idles : s.Idles
  phase : s.ste.phase = .idle

theorem State.ModesConsistent.parked (h : s.ModesConsistent) (quiet : s.ctl.mode = .quiet) : s.Parked where
  mode := quiet
  idles := h.idles (h.listening (.inr quiet)) (by simp [quiet])
  phase := by
    by_contra runs
    exact nomatch quiet.symm.trans (h.testing.1 runs)

theorem State.Parked.of_retains (h : s.Parked) (r : s.Retains t) (rx : t.link.rx = .listen)
    (short : t.link.beacons.toNat < 64) : t.Parked where
  mode := by rw [r.ctl, h.mode]
  idles := by
    obtain ⟨low, -, step⟩ := h.idles.parts
    exact ⟨rx, by simp [State.resetHeld, r.ctl, low, step, short]⟩
  phase := by rw [r.ste, h.phase]

theorem SelfTest.phaseDone_of_idle {e : SelfTest} (h : e.phase = .idle) : e.phaseDone = false := by
  simp [SelfTest.phaseDone, h]

/-! ## The node's own events -/

theorem Store.setBank_settings (t : Store) (b : Bank) (q : PageState) :
    (t.setBank b q).cfg = t.cfg ∧ (t.setBank b q).watermark = t.watermark := by
  cases b <;> exact ⟨rfl, rfl⟩

theorem State.writerStep_settings (s : State) :
    s.writerStep.stl.cfg = s.stl.cfg ∧ s.writerStep.stl.watermark = s.stl.watermark := by
  rcases s.writerStep_stl_cases with e | ⟨o, rest, -, -, ⟨-, e⟩ | ⟨-, -, e⟩ | ⟨-, -, -, e⟩⟩ <;> rw [e]
  · exact ⟨rfl, rfl⟩
  · exact ⟨rfl, rfl⟩
  · obtain ⟨m, e⟩ := s.stl.stepTaken.writeRecord_eq o
    rw [e]
    split_ifs <;> exact ⟨rfl, rfl⟩
  · exact Store.setBank_settings ..

/-- The log writer's step (R126). -/
theorem State.writerStep_retains (s : State) : s.Retains s.writerStep := by
  have raised : s.evu.Raised s.writerStep.evu := .writerStep (.refl _)
  obtain ⟨cfg, watermark⟩ := s.writerStep_settings
  refine ⟨by simp [State.retained, raised.enable, raised.alert, cfg, watermark], fun queue _ => ?_⟩
  rcases s.writerStep_cases with ⟨-, e⟩ | ⟨o, rest, -, -, some, -⟩
  · rw [e]
    exact ⟨rfl, rfl⟩
  · exact nomatch queue.symm.trans some

theorem State.completeOpen_retains (s : State) (b : Bank) : s.Retains (s.completeOpen b) := by
  rcases s.completeOpen_cases b with ⟨q, done, e⟩ | ⟨-, e⟩ <;> rw [e]
  · refine ⟨?_, fun _ banks => ?_⟩
    · cases b <;> rfl
    · have := banks b
      simp [done, PageState.isOpening] at this
  · exact .refl s

theorem State.expireWatch_retains (awake : s.ctl.mode ≠ .run) : s.Retains s.expireWatch := by
  rcases s.expireWatch_cases with ⟨runs, -⟩ | ⟨-, e⟩
  · simp [State.watchRuns, awake] at runs
  · rw [e]
    exact .refl s

theorem State.Parked.takeOwn_retains (h : s.Parked) (p : Nat) : s.Retains (s.takeOwn p) := by
  rw [State.takeOwn_of_listen h.idles.listen (.inr (SelfTest.phaseDone_of_idle h.phase))]
  refine .ite (.ite (.ite (.ite (.refl s) s.writerStep_retains) (State.completeOpen_retains _ _))
    (State.completeOpen_retains _ _))
    (State.expireWatch_retains ?_)
  simp [apply_ite State.ctl, h.mode]

theorem State.Parked.close_retains (h : s.Parked) : s.Retains s.close := by
  rcases s.close_cases with ⟨-, e⟩ | ⟨m, -, e⟩ <;> rw [e]
  · exact .refl s
  · obtain ⟨kept, still⟩ := h.takeOwn_retains 90
    refine ⟨kept, fun queue banks => ?_⟩
    obtain ⟨stl, evu⟩ := still queue banks
    exact ⟨stl, congrArg (fun e : Events => { e with alertn := (s.takeOwn 90).alertLow }) evu⟩

theorem State.Parked.reach_retains (h : s.Parked) (p : Nat) : s.Retains (s.reach p) := by
  rcases s.reach_cases p with ⟨m, -, -, e⟩ | ⟨-, e⟩ <;> rw [e]
  · exact (h.takeOwn_retains p).withNow _
  · exact h.close_retains.withNow _

theorem State.Parked.close (h : s.Parked) : s.close.Parked :=
  h.of_retains h.close_retains (by rw [State.close_rx (by rw [h.idles.listen]; rfl), h.idles.listen])
    (by simpa using h.idles.parts.2.1)

theorem State.Parked.reach (h : s.Parked) (p : Nat) : (s.reach p).Parked :=
  h.of_retains (h.reach_retains p) (by rw [State.reach_rx (by rw [h.idles.listen]; rfl), h.idles.listen])
    (by simpa using h.idles.parts.2.1)

theorem PageState.countUnit_of_idle {q : PageState} (h : q.isOpening = false) : q.countUnit = q := by
  cases q with
  | opening page n => exact nomatch h
  | _ => rfl

/-- A unit counts, and in QUIET no timed count runs but the page opens (R1). -/
theorem State.Parked.endUnit_retains (h : s.Parked) (m : Moment) : s.Retains (s.endUnit m) := by
  obtain ⟨-, -, step⟩ := h.idles.parts
  have ctl : s.ctl.countUnit m = s.ctl := by
    rw [Control.countUnit, step, Option.map_none, ite_self, ← step]
  have ste : s.ste.countUnit m = s.ste := by
    rw [SelfTest.countUnit, if_neg (by simp [h.phase])]
  refine ⟨?_, fun _ banks => ⟨?_, rfl⟩⟩
  · simp only [State.retained, State.endUnit_ctl, State.countUnit_ctl, State.endUnit_ste, State.countUnit_ste, ctl, ste]
    simp [h.mode, Store.countUnit, Link.statusWord]
  · have bank0 := PageState.countUnit_of_idle (banks .bank0)
    have bank1 := PageState.countUnit_of_idle (banks .bank1)
    simp only [Store.bank] at bank0 bank1
    simp [Store.countUnit, bank0, bank1]

theorem State.Parked.openUnit (h : s.Parked) (p : Nat) : s.Retains (s.openUnit p) ∧ (s.openUnit p).Parked := by
  have retains : s.Retains (s.openUnit p) := by
    rcases s.openUnit_cases p with ⟨m, -, -, e⟩ | ⟨-, e⟩ <;> rw [e]
    · exact h.endUnit_retains m
    · exact h.close_retains.trans (h.close.endUnit_retains _)
  exact ⟨retains, h.of_retains retains (by rw [State.openUnit_rx (by rw [h.idles.listen]; rfl), h.idles.listen])
    (by simpa using h.idles.parts.2.1)⟩

/-! ## A unit -/

/-- A beacon count alone is not named in R168. -/
theorem State.withBeacons_retains (s : State) (b : BitVec 8) : s.Retains (s.withBeacons b) := .of_same rfl rfl rfl

/-- A run that ends wakes the node, or changes nothing that it keeps (R50). -/
theorem State.Parked.afterRun (h : s.Parked) : s.afterRun.ctl.mode = .setup ∨
    (s.Retains s.afterRun ∧ s.afterRun.link.rx = .listen ∧ s.afterRun.link.beacons.toNat < 64) := by
  unfold State.afterRun
  split_ifs
  · rcases s.endRun_cases with ⟨-, -, -, e⟩ | ⟨awake, -⟩ | e
    · rw [e]
      exact .inl rfl
    · simp [h.mode] at awake
    · rw [e]
      exact .inr ⟨.of_same rfl rfl rfl, h.idles.listen, show (0 : BitVec 8).toNat < 64 by decide⟩
  · exact .inr ⟨.refl s, h.idles.listen, h.idles.parts.2.1⟩

/-- What a unit does before step 7 takes the node out of QUIET, or changes nothing that it keeps (R49). -/
theorem State.Parked.earlySteps (h : v.Parked) (u : LinkUnit) (mid : BitVec 4) :
    (v.earlySteps u mid).ctl.mode ≠ .quiet ∨
      (v.Retains (v.earlySteps u mid) ∧ (v.earlySteps u mid).Parked) := by
  obtain ⟨-, short, step⟩ := h.idles.parts
  have listen := h.idles.listen
  by_cases beacon : u = .beacon
  · subst beacon
    rw [State.earlySteps_beacon, State.replyUnit_of_listen listen]
    rcases v.countBeacon_cases with ⟨last, e⟩ | ⟨other, e⟩
    · refine .inl ?_
      have run : 64 ≤ v.countBeacon.link.beacons.toNat := by
        rw [e]
        simp [State.beginReset, Link.reset, last, satInc_eight]
      rw [(State.endCauses_beacon_of_run run mid).1, e]
      exact fun quiet => nomatch quiet
    · have counted : v.countBeacon = v.withBeacons (satInc v.link.beacons) := e
      rw [counted, State.endCauses_none (.inl rfl) (by change v.ctl.softStep ≠ _; simp [step])]
      have retains := v.withBeacons_retains (satInc v.link.beacons)
      refine .inr ⟨retains, h.of_retains retains listen ?_⟩
      change (satInc v.link.beacons).toNat < 64
      have : v.link.beacons.toNat ≠ 63 := fun e => other (BitVec.eq_of_toNat_eq e)
      rw [toNat_satInc_eight]
      omega
  · rw [State.earlySteps_of_other beacon, State.replyUnit_of_listen listen, State.endCauses_none (.inr short) (by simp [step])]
    rcases h.afterRun with woken | ⟨retains, rx, ended⟩
    · exact .inl (by simp [woken])
    · exact .inr ⟨retains, h.of_retains retains rx ended⟩

/-- A unit that leaves the node in QUIET changes nothing that it keeps there (R49). -/
theorem State.Parked.receive (h : s.Parked) (u : LinkUnit) (mid : BitVec 4)
    (still : (s.receive u mid).ctl.mode = .quiet) : s.Retains (s.receive u mid) := by
  obtain ⟨opened, parked⟩ := h.openUnit (s.unitPlace u)
  have before := (State.beforeLink_openUnit (s.unitPlace_le u) s).earlySteps u mid
  obtain ⟨e, he⟩ : ∃ e, (s.openUnit (s.unitPlace u)).earlySteps u mid = e := ⟨_, rfl⟩
  have early := parked.earlySteps u mid
  rw [State.receive, State.unit, he] at still ⊢
  rw [he] at before early
  rw [State.linkStep_ctl before] at still
  obtain ⟨retains, listens⟩ := early.resolve_left fun awake => awake still
  refine (opened.trans retains).trans ?_
  have framed {y : State} (parked : y.Parked) : y.beginRequest = y := by simp [State.beginRequest, parked.mode, Mode.frames]
  rcases e.linkStep_cases u (s.unitPlace u) with ⟨cut, -⟩ | ⟨-, -, -, link⟩ | ⟨-, -, -, link⟩ | ⟨-, -, link⟩
  · rw [listens.idles.listen] at cut
    cases u <;> exact nomatch cut
  · rw [link, framed (listens.reach 70)]
    exact listens.reach_retains 70
  · rw [link, framed listens]
    exact .refl e
  · rw [link]
    exact .refl e

/-! ## Units that pass -/

/-- The node has been woken: out of QUIET, in LISTEN, without a reset cause and a self-test phase. -/
structure State.Woken (s : State) : Prop where
  mode : s.ctl.mode ≠ .quiet
  idles : s.Idles
  phase : s.ste.phase = .idle

theorem State.Woken.passUnit (h : s.Woken) (mid : BitVec 4) : (s.passUnit mid).Woken := by
  obtain ⟨x, m, -, -, rests, ends, -, idles⟩ := h.idles.passUnit (SelfTest.phaseDone_of_idle h.phase) mid
  have mode : (x.endUnit m).ctl.mode = s.ctl.mode := show x.ctl.mode = s.ctl.mode from congrArg Control.mode rests.ctl
  refine ⟨?_, idles, ?_⟩
  · rcases ends.mode with e | ⟨quiet, -⟩
    · rw [e, mode]
      exact h.mode
    · exact absurd (mode.symm.trans quiet) h.mode
  · rw [ends.ste]
    exact (congrArg SelfTest.phase rests.ste).trans h.phase

/-- A unit that passes leaves the node in QUIET with what it keeps there, or wakes it (R49, R50). -/
theorem State.Parked.passUnit (h : s.Parked) (mid : BitVec 4) :
    (s.Retains (s.passUnit mid) ∧ (s.passUnit mid).Parked) ∨ (s.passUnit mid).Woken := by
  obtain ⟨x, m, from_, -, rests, ends, -, idles⟩ := h.idles.passUnit (SelfTest.phaseDone_of_idle h.phase) mid
  have phase : (s.passUnit mid).ste.phase = .idle := by
    rw [ends.ste]
    exact (congrArg SelfTest.phase rests.ste).trans h.phase
  by_cases quiet : (s.passUnit mid).ctl.mode = .quiet
  · refine .inl ⟨?_, quiet, idles, phase⟩
    have waited : s.Retains s.forUnit ∧ s.forUnit.Parked := by
      rcases s.forUnit_cases with ⟨m, -, -, -, e⟩ | ⟨-, e⟩ <;> rw [e]
      · exact ⟨.refl s, h⟩
      · exact ⟨h.close_retains, h.close⟩
    rcases s.passUnit_cases mid with ⟨-, e⟩ | ⟨-, e⟩ <;> rw [e] at quiet ⊢
    · exact waited.1
    · exact waited.1.trans (waited.2.receive _ mid quiet)
  · exact .inr ⟨quiet, idles, phase⟩

theorem State.Woken.passWhile {going : State → Bool} (h : s.Woken) (mid : BitVec 4) (n : Nat) :
    (s.passWhile going mid n).Woken := by
  induction n generalizing s with
  | zero => exact h
  | succ n ih =>
    rw [State.passWhile]
    split
    · exact ih (h.passUnit mid)
    · exact h

/-- Units that pass leave the node in QUIET with what it keeps there, or wake it. -/
theorem State.Parked.passWhile {going : State → Bool} (h : s.Parked) (mid : BitVec 4) (n : Nat) :
    (s.Retains (s.passWhile going mid n) ∧ (s.passWhile going mid n).Parked) ∨ (s.passWhile going mid n).Woken := by
  induction n generalizing s with
  | zero => exact .inl ⟨.refl s, h⟩
  | succ n ih =>
    rw [State.passWhile]
    split
    · rcases h.passUnit mid with ⟨retains, parked⟩ | woken
      · exact (ih parked).imp_left fun ⟨rest, still⟩ => ⟨retains.trans rest, still⟩
      · exact .inr (woken.passWhile mid n)
    · exact .inl ⟨.refl s, h⟩

/-- The node's own events do not bring back QUIET. -/
theorem State.Woken.reach_mode (h : s.Woken) (p : Nat) : (s.reach p).ctl.mode ≠ .quiet := by
  have own (p : Nat) : (s.takeOwn p).ctl = s.ctl :=
    (State.takeOwn_rests h.idles.listen (.inr (SelfTest.phaseDone_of_idle h.phase))).ctl
  rcases s.reach_cases p with ⟨m, -, -, e⟩ | ⟨-, e⟩ <;> rw [e]
  · exact fun quiet => h.mode ((congrArg Control.mode (own p)).symm.trans quiet)
  · exact fun quiet => h.mode ((congrArg Control.mode
      (State.close_rests h.idles.listen (SelfTest.phaseDone_of_idle h.phase)).ctl).symm.trans quiet)

/-! ## Commands -/

/-- `t` keeps what `s` has in QUIET, and the whole store, log and event unit when no instant is open at `s`: no link unit
and no step of the writer comes with the command (R49). -/
structure State.StaysAt (s t : State) : Prop where
  retains : s.Retains t
  fixed : s.now = none → t.stl = s.stl ∧ t.evu = s.evu

theorem State.StaysAt.refl (s : State) : s.StaysAt s := ⟨.refl s, fun _ => ⟨rfl, rfl⟩⟩

theorem State.StaysAt.trans_same (h : s.StaysAt t) (kept : u.retained = t.retained) (stl : u.stl = t.stl) (evu : u.evu = t.evu) :
    s.StaysAt u where
  retains := h.retains.trans (.of_same kept stl evu)
  fixed now := by rw [stl, evu]; exact h.fixed now

theorem State.Parked.reach_staysAt (h : s.Parked) (p : Nat) : s.StaysAt (s.reach p) where
  retains := h.reach_retains p
  fixed now := by
    rw [State.reach_of_new (by simp [now]), State.close_of_shut now]
    exact ⟨rfl, rfl⟩

/-- A receiver that frames again keeps the counters of its feed (R63). -/
theorem Capture.setFeed_statusWord (c : Capture) (f g : Nat) (rx : FeedRx) :
    ((c.setFeed f { c.feed f with rx := rx }).feed g).statusWord = (c.feed g).statusWord := by
  simp only [Capture.feed, Capture.setFeed, Vector.getElem?_setIfInBounds]
  split_ifs with same within
  · subst same
    rfl
  · subst same
    rw [Vector.getElem?_eq_none (by omega)]
  · rfl

/-- A command that does not bring a link unit, the writer's step or the end of a page open keeps a node in QUIET as it is
(R49). -/
theorem exec_staysAt {c : Instr} (h : s.Parked) (step : exec c s = .next t) (still : t.ctl.mode = .quiet)
    (start : ∀ mid, c ≠ .startUnit mid) (beacon : c ≠ .beaconUnit) (run : ∀ u mid, c ≠ .beaconRunEnd u mid)
    (writer : c ≠ .logWriterStep) (page : ∀ b, c ≠ .pageOpenDone b) : s.StaysAt t := by
  have listen := h.idles.listen
  obtain ⟨low, -, soft⟩ := h.idles.parts
  have closed : s.close.link.rx = .listen := h.close.idles.listen
  have stays (e : exec c s = .next s) : s.StaysAt t := by
    cases Host.Outcome.next.inj (step.symm.trans e)
    exact .refl s
  cases row : rowBlock c with
  | some b =>
    obtain ⟨belongs, -, e⟩ := exec_eq_takeRequest row
    rcases s.takeRequest_cases belongs b (effectOf c) with same | ⟨r, ⟨followed, -⟩, -⟩
    · exact stays ((e s).trans same)
    · rw [listen] at followed
      exact nomatch followed
  | none =>
    cases c <;> simp only [rowBlock, reduceCtorEq] at row
    case startUnit mid => exact absurd rfl (start mid)
    case beaconUnit => exact absurd rfl beacon
    case beaconRunEnd u mid => exact absurd rfl (run u mid)
    case logWriterStep => exact absurd rfl writer
    case pageOpenDone b => exact absurd rfl (page b)
    case framingError u =>
      exact stays (if_neg (by rw [listen]; exact fun h => nomatch h.1))
    case replyTruncated u =>
      exact stays (if_neg (by rw [closed]; exact fun h => nomatch h.1))
    case headerReceived o =>
      refine stays ?_
      change execHeaderReceived o s = _
      rw [execHeaderReceived, listen]
    case ackTokenSend => exact stays (if_pos (by rw [closed]; rfl))
    case readDataSend => exact stays (if_pos (by rw [closed]; rfl))
    case replyEnd => exact stays (if_pos (by rw [closed]; rfl))
    case replyClash bit =>
      refine stays ?_
      change execReplyClash bit s = _
      rw [execReplyClash, listen]
      rfl
    case pinReset power =>
      cases Host.Outcome.next.inj step
      exact nomatch still
    case pinResetRelease mid =>
      cases Host.Outcome.next.inj step
      have high : (s.reach 12).ctl.rstnLow = false := by rw [(h.reach_retains 12).ctl, low]
      rw [State.pinRelease, if_neg (by simp [high])]
      exact (h.reach_staysAt 12).trans_same rfl rfl rfl
    case softResetStepDone mid =>
      refine stays ?_
      change execSoftResetStepDone mid s = _
      rw [execSoftResetStepDone, soft]
    case selftestPhaseEnd failed => exact stays (if_pos h.phase)
    case chiChange level =>
      cases Host.Outcome.next.inj step
      exact (h.reach_staysAt 0).trans_same rfl rfl rfl
    case feedMessage feed bits =>
      cases Host.Outcome.next.inj step
      rw [State.takeMessage_of_ignored (by simp [State.considers, (h.reach _).mode])]
      exact h.reach_staysAt _
    case frameMarker number =>
      cases Host.Outcome.next.inj step
      have still : (s.reach 30).sawMarker.ctl.mode ≠ .run := by
        change (s.reach 30).ctl.mode ≠ .run
        simp [(h.reach 30).mode]
      rw [State.takeMarker, if_pos still]
      exact (h.reach_staysAt 30).trans_same rfl rfl rfl
    case slotTick ltag =>
      cases Host.Outcome.next.inj step
      rw [State.takeTick, if_pos (by simp [(h.reach 50).mode])]
      exact h.reach_staysAt 50
    case frameWatchExpiry =>
      exact stays (if_pos (by simp [State.watchRuns, h.mode]))
    case feedReceiverResync feed =>
      have reached := h.reach_staysAt (40 + feed.toNat)
      rcases next_of_ite step with ⟨-, rfl⟩ | ⟨-, rfl⟩
      · refine reached.trans_same ?_ rfl rfl
        simp only [State.retained, Capture.setFeed_statusWord]
        rfl
      · exact reached

/-- Every command that leaves the node in QUIET keeps what R168 names (R49). -/
theorem exec_retains {c : Instr} (h : s.Parked) (step : exec c s = .next t) (still : t.ctl.mode = .quiet) : s.Retains t := by
  cases c
  case startUnit mid | beaconUnit =>
    cases Host.Outcome.next.inj step
    exact h.receive _ _ still
  case beaconRunEnd u mid =>
    rcases next_of_ite step with ⟨-, rfl⟩ | ⟨-, rfl⟩
    · exact h.receive _ _ still
    · exact .refl _
  case logWriterStep =>
    rcases next_of_ite step with ⟨-, rfl⟩ | ⟨-, rfl⟩
    · exact ((h.reach_retains 60).trans (State.writerStep_retains _)).trans (.of_same rfl rfl rfl)
    · exact .refl _
  case pageOpenDone b =>
    change execPageOpenDone b s = .next t at step
    unfold execPageOpenDone at step
    split at step <;> cases Host.Outcome.next.inj step
    · rename_i q n page
      rw [State.completeOpen_ctl] at still
      rcases h.passWhile (going := State.openWaits b) 0 n with ⟨retains, parked⟩ | woken
      · exact (retains.trans (parked.reach_retains _)).trans (State.completeOpen_retains _ b)
      · exact absurd still (woken.reach_mode _)
    · exact .refl _
  all_goals exact (exec_staysAt h step still (by simp) (by simp) (by simp) (by simp) (by simp)).retains

/-- Settles O12: what a node in QUIET keeps, command by command. -/
theorem quietRetainsState : Obligations.QuietRetainsState := by
  intro c s t consistent quiet step still
  have parked := consistent.parked quiet
  have retains := exec_retains parked step still
  refine ⟨?_, retains.still, fun now start beacon run writer page =>
    (exec_staysAt parked step still start beacon run writer page).fixed now⟩
  have kept := retains.kept
  simp only [State.retained, Prod.mk.injEq, funext_iff] at kept
  obtain ⟨node, ⟨cfg, status, mem, drain⟩, ⟨feedCfg, span, channels, feeds⟩, ⟨sct, lane⟩,
    ⟨store, watermark, enable, alert⟩, ste, user, ctl⟩ := kept
  exact ⟨node, cfg, status, mem, drain, feedCfg, span, channels, feeds, sct, lane, store, watermark,
    enable, alert, ste, user, ctl⟩

end

end Sys2Proof.Machine
end

section
/-! SUPPORT. The physical place of every store word under both maps (O31). -/

namespace Sys2Proof.Machine

open Sys2Proof (Bank Word)

/-! ## The place of a store word -/

/-- The pages of a bank follow those of the banks before it (R117). -/
theorem bankNumber_mul_pages (b : Bank) : bankNumber b * 64 = if b = .bank0 then 0 else 64 := by
  cases b <;> rfl

theorem logicalPage_le {a : Nat} (h : a ≤ 0x7FFF) : logicalPage a ≤ 127 := by
  unfold logicalPage
  omega

/-- The map with a half of the store to each bank: bank and physical page (R117). -/
theorem Store.place_of_linear {t : Store} (map : t.interleaved = false) (p : Nat) :
    t.bankOf p = (if p / 64 = 0 then .bank0 else .bank1) ∧ t.physicalPage p = p % 64 := by
  rw [Store.bankOf, Store.physicalPage, map]
  exact ⟨rfl, rfl⟩

/-- The interleaving map: bank and physical page (R117). -/
theorem Store.place_of_interleaved {t : Store} (map : t.interleaved = true) (p : Nat) :
    t.bankOf p = (if p % 2 = 0 then .bank0 else .bank1) ∧ t.physicalPage p = p / 2 := by
  rw [Store.bankOf, Store.physicalPage, map]
  exact ⟨rfl, rfl⟩

theorem Store.physicalPage_lt (t : Store) {p : Nat} (h : p ≤ 127) : t.physicalPage p < 64 := by
  unfold Store.physicalPage
  split <;> omega

theorem Store.physicalWord_eq (t : Store) (a : Nat) :
    t.physicalWord a =
      ((if t.bankOf (logicalPage a) = .bank0 then 0 else 64) + t.physicalPage (logicalPage a)) * 128 + a % 128 := by
  rw [Store.physicalWord, bankNumber_mul_pages]

/-- Every store word lies within the 2 banks of 64 pages of 128 words (R117). -/
theorem Store.physicalWord_lt (t : Store) {a : Nat} (h : a ≤ 0x7FFF) : t.physicalWord a < 16384 := by
  have page := t.physicalPage_lt (logicalPage_le h)
  rw [Store.physicalWord_eq]
  split <;> omega

/-! ## A change of the map -/

/-- STORE_CFG written, as the store sees it: the new map, and the log emptied (R118). -/
theorem State.writeWord_storeCfg (s : State) (w : Word) :
    (s.writeWord 0x018 w).stl = { s.stl with cfg := w &&& storedBits 0x018 }.emptyLog.emptyQueue := rfl

/-- A write of STORE_CFG moves no page of a bank (R117). -/
theorem State.writeWord_storeCfg_banks (s : State) (w : Word) :
    (s.writeWord 0x018 w).stl.bank0 = s.stl.bank0 ∧ (s.writeWord 0x018 w).stl.bank1 = s.stl.bank1 := by
  rw [State.writeWord_storeCfg]
  exact ⟨rfl, rfl⟩

/-! ## The statement -/

/-- Settles O31: the place under each map, and what a change of the map leaves. -/
theorem storeMapReachesEveryWord : Obligations.StoreMapReachesEveryWord := by
  refine ⟨fun t a lo hi => ?_, fun s w => ⟨s.writeWord_mem 0x018 w, s.writeWord_storeCfg_banks w⟩⟩
  exact ⟨logicalPage_le hi, fun linear => Store.place_of_linear linear _,
    fun interleaved => Store.place_of_interleaved interleaved _, t.physicalWord_eq a, t.physicalWord_lt hi,
    fun b bLo bHi => t.physicalWord_injective ⟨lo, hi⟩ ⟨bLo, bHi⟩, rfl, fun _ _ => rfl⟩

end Sys2Proof.Machine
end
